-- ==== Sys2Proof/Word.lean ====
section
/-! DEFINITION. The machine's two word types (00_scope R11, R15): `u8` and `u16`. -/

namespace Sys2Proof

/-- An unsigned byte, `u8` (R15). -/
abbrev Byte := BitVec 8

/-- An unsigned 16-bit word, `u16`: an address, a register pair, PC or SP (R11, R15). -/
abbrev Word := BitVec 16

end Sys2Proof
end

