-- ==== Sys2Proof/Machine/Bits.lean ====
section
/-! DEFINITION. Bit fields, sign extension and byte order: the notation of 00_scope R14 and R15 as functions. -/

namespace Sys2Proof

/-- `v[i]`, bit 0 the least significant (R14). -/
def bitAt {n : Nat} (v : BitVec n) (i : Nat) : Bool := v.getLsbD i

/-- `w[7:0]` (R14). -/
def loByte (w : Word) : Byte := w.extractLsb' 0 8

/-- `w[15:8]` (R14). -/
def hiByte (w : Word) : Byte := w.extractLsb' 8 8

/-- `hi:lo`, the 16-bit value `hi * 256 + lo` (R15, R270). -/
def concat16 (hi lo : Byte) : Word := hi ++ lo

/-- `sext_16(v)`: bit 7 copied into bits 15:8 (R15). -/
def sext16 (v : Byte) : Word := v.signExtend 16

/-- `zext_16(v)` (R15). -/
def zext16 (v : Byte) : Word := v.zeroExtend 16

/-- One bit as a number, 0 or 1. -/
def bitNat (b : Bool) : Nat := if b then 1 else 0

/-- A byte with bit `i` equal to `b` and every other bit 0. -/
def bitByte (i : Nat) (b : Bool) : Byte := if b then BitVec.ofNat 8 (2 ^ i) else 0

/-- A register read whose bits under `mask` are unspecified: they come from the draw `d` (R212). -/
def blend (mask d v : Byte) : Byte := (v &&& ~~~mask) ||| (d &&& mask)

/-- A finite table over a default: the first entry for `k`, or `dflt`. -/
def lookupD {α β : Type} [DecidableEq α] (k : α) (dflt : β) : List (α × β) → β
  | [] => dflt
  | (k', v) :: t => if k' = k then v else lookupD k dflt t

end Sys2Proof
end

