-- ==== Sys2Proof/Config.lean ====
section
/-! DEFINITION. What is fixed for one machine (the parameters of 00_scope R13), and the free values: what the spec calls
a draw (20_memory R212, 70_reset_and_hazards R1003). A free value is an opaque constant without a body. -/

namespace Sys2Proof

/-- An RGB triple of the framebuffer (61_video_audio R926, R928). -/
structure Rgb where
  red : Byte
  green : Byte
  blue : Byte
  deriving DecidableEq, Repr, Inhabited

/-- `ECHO_MODE` (R13, 20_memory R216): what E000-FDFF is. -/
inductive EchoMode where
  | unmapped
  | mirror
  deriving DecidableEq, Repr

/-- `MBC1_MODE` (R13, 20_memory R243, R244): the mode latch's semantics. -/
inductive Mbc1Mode where
  | hardware
  | simple
  deriving DecidableEq, Repr

/-- `LCD_OFF_TIMING` (R13, 61_video_audio R916). -/
inductive LcdOffTiming where
  | continues
  | stops
  deriving DecidableEq, Repr

/-- What `AUDIO_MIX` is applied to (R963): the four amplitudes, NR50 and NR51. -/
structure MixInput where
  a1 : Nat
  a2 : Nat
  a3 : Nat
  a4 : Nat
  nr50 : Byte
  nr51 : Byte
  deriving DecidableEq, Repr

/-- The parameters of R13, constant for one machine. DESIGN CHOICE (log 17, safe): they are plain data in the state, so a
statement about every state holds for every choice. The three function-valued parameters (`CYCLE_COST`, `CGB_RGB`,
`AUDIO_MIX`) are their default functions overridden by a finite table. -/
structure Config where
  /-- `EI_DELAY` = 1 (true) or 0 (false), 46_system R755. -/
  eiDelay : Bool
  /-- `INT_DISPATCH_CYCLES`, 60_exceptions R811. -/
  intDispatchCycles : Nat
  /-- `CYCLE_COST` where it differs from R1030: (opcode, (taken, not taken)), the CB page at CB00 + second byte. -/
  cycleCost : List (Nat × (Nat × Nat))
  echoMode : EchoMode
  mbc1Mode : Mbc1Mode
  /-- `MBC5_BANK0_ALIAS`, 20_memory R251. -/
  mbc5BankZeroToOne : Bool
  /-- `VRAM_LOCK`, 61_video_audio R929. -/
  vramLock : Bool
  lcdOffTiming : LcdOffTiming
  /-- `SPRITE_LIMIT`, 61_video_audio R922: none, or a number of sprites per line. -/
  spriteLimit : Option Nat
  /-- `DMG_SHADES` of shades 0 to 3, 61_video_audio R926. -/
  dmgShade0 : Rgb
  dmgShade1 : Rgb
  dmgShade2 : Rgb
  dmgShade3 : Rgb
  /-- `CGB_RGB` where it differs from R927's default: (color word, triple). -/
  cgbRgb : List (Nat × Rgb)
  /-- `AUDIO_MIX` where it differs from R963's default: (input, (left, right)). -/
  audioMix : List (MixInput × (Nat × Nat))
  /-- `PEDANTIC_ALLOW`, 20_memory R213. -/
  pedanticAllow : List Word
  /-- The sink's `sample_rate()`, read once at construction (R881, R953). -/
  sampleRate : Nat
  deriving DecidableEq, Repr

/-- R13's defaults. The sample rate has none in the spec. DESIGN CHOICE (log 4, unsafe): 44100, the rate of the spec's
test vectors. -/
def Config.standard : Config where
  eiDelay := true
  intDispatchCycles := 20
  cycleCost := []
  echoMode := .unmapped
  mbc1Mode := .hardware
  mbc5BankZeroToOne := false
  vramLock := false
  lcdOffTiming := .continues
  spriteLimit := none
  dmgShade0 := ⟨255, 255, 255⟩
  dmgShade1 := ⟨170, 170, 170⟩
  dmgShade2 := ⟨85, 85, 85⟩
  dmgShade3 := ⟨0, 0, 0⟩
  cgbRgb := []
  audioMix := []
  pedanticAllow := []
  sampleRate := 44100

/-- FREE VALUE (log 5, safe): what an unspecified bit of a register reads as (R212, D8). The first argument is the state's
draw counter, the second the address. -/
opaque Config.freeByte : Nat → Nat → Byte

/-- FREE VALUE (log 6, safe): what a byte of memory holds before anything writes it (R1003). The first argument names the
memory, the second is the offset in it. -/
opaque Config.initByte : Nat → Nat → Byte

/-- FREE VALUE (log 6, safe): what a framebuffer pixel holds before its line is rendered (R928): buffer, line, x. -/
opaque Config.initPixel : Nat → Nat → Nat → Rgb

end Sys2Proof
end

