-- ==== Sys2Proof/Machine/Memory.lean ====
section
/-! DEFINITION. One memory of the machine: a list of (offset, byte) pairs in one canonical form, offsets strictly rising and
no entry equal to what an unlisted offset reads as. Every memory of the state (work RAM, high RAM, video RAM, OAM, external
RAM, wave RAM, the palettes, the ROM image) is one of these. -/

namespace Sys2Proof.Machine

/-- What an unlisted byte of a memory is: zero (the ROM image's padding), or a draw of the memory named by the number
(70_reset_and_hazards R1003, log 6). -/
inductive Fill where
  | zero
  | draw (memory : Nat)
  deriving DecidableEq, Repr

/-- A memory: its fill and its listed bytes. -/
structure Memory where
  fill : Fill
  cells : List Host.Cell
  deriving DecidableEq, Repr

/-- What an unlisted byte reads as: the one definition of it. -/
def Memory.unlisted (m : Memory) (a : Nat) : Byte :=
  match m.fill with
  | .zero => 0
  | .draw k => Config.initByte k a

/-- The listed byte at an offset, if any. -/
def findCell (a : Nat) : List Host.Cell → Option Byte
  | [] => none
  | (k, v) :: t => if k = a then some v else findCell a t

/-- The list with the byte at `a` listed as `v`, in rising order. -/
def putCell (a : Nat) (v : Byte) : List Host.Cell → List Host.Cell
  | [] => [(a, v)]
  | (k, w) :: t =>
    if a < k then (a, v) :: (k, w) :: t
    else if a = k then (a, v) :: t
    else (k, w) :: putCell a v t

/-- The list with no byte listed at `a`. -/
def eraseCell (a : Nat) : List Host.Cell → List Host.Cell
  | [] => []
  | (k, w) :: t => if k = a then t else (k, w) :: eraseCell a t

def Memory.read (m : Memory) (a : Nat) : Byte := (findCell a m.cells).getD (m.unlisted a)

/-- Writing what an unlisted byte reads as removes the entry, so equal memories are equal data. -/
def Memory.write (m : Memory) (a : Nat) (v : Byte) : Memory :=
  { m with cells := if v = m.unlisted a then eraseCell a m.cells else putCell a v m.cells }

/-- Every key of the list is above `lo` and the keys rise strictly. -/
def risingFrom (lo : Nat) : List Host.Cell → Bool
  | [] => true
  | (k, _) :: t => decide (lo ≤ k) && risingFrom (k + 1) t

/-- The canonical form. -/
def Memory.wf (m : Memory) : Bool :=
  risingFrom 0 m.cells && m.cells.all fun c => decide (c.2 ≠ m.unlisted c.1)

/-- A memory with nothing listed. -/
def Memory.blank (f : Fill) : Memory := ⟨f, []⟩

/-- The memory holding the bytes `bs` from offset `a` on, zero elsewhere. -/
def Memory.load (m : Memory) (a : Nat) : List Byte → Memory
  | [] => m
  | b :: t => Memory.load (m.write a b) (a + 1) t

end Sys2Proof.Machine
end

