-- ==== Sys2Proof/Machine/State.lean ====
section
/-! DEFINITION. The machine's state as plain data: every piece of state the spec gives the CORE (INVENTORY.md, State), the
reasons a step can stop, and the state after construction (70_reset_and_hazards R1000 to R1004). -/

namespace Sys2Proof.Machine

/-- The processor's registers (10_state R100, R101). The pairs are views (R102). F's low nibble is hard-wired to zero: it is
read and written through `State.flagByte` and `State.setFlagByte` only (R103). -/
structure Regs where
  a : Byte
  f : Byte
  b : Byte
  c : Byte
  d : Byte
  e : Byte
  h : Byte
  l : Byte
  sp : Word
  pc : Word
  deriving DecidableEq, Repr

/-- The interrupt kinds, in priority order (60_exceptions R820). -/
inductive IntKind where
  | vblank
  | videoStatus
  | timer
  | controller
  deriving DecidableEq, Repr

/-- The error kinds with their information (60_exceptions R800 to R804). `Breakpoint` is no FAULT (R805): see `StepResult`. -/
inductive StepError where
  /-- No mapped device in pedantic mode, or a watchpoint (R801): the address. -/
  | busError (a : Word)
  /-- One of the eleven opcode bytes without an instruction (R802): the byte. -/
  | invalidInstruction (op : Byte)
  /-- External RAM accessed while disabled (R803): the address. -/
  | protectionFault (a : Word)
  /-- STOP without a prepared speed switch (R804): the address of the STOP opcode. -/
  | stopWithoutSpeedPrep (a : Word)
  deriving DecidableEq, Repr

/-- What the last `run_cycle` returned (60_exceptions R805, R806, R810): the model's own field (log 14). -/
inductive StepResult where
  | ok
  | breakpoint (pc : Word)
  | interruptBreakpoint (k : IntKind)
  | error (e : StepError)
  deriving DecidableEq, Repr

/-- The timer (60_exceptions R840): DIV is derived from `divBase`. -/
structure Timer where
  divBase : Nat
  tima : Byte
  tma : Byte
  tac : BitVec 3
  nextTick : Nat
  deriving DecidableEq, Repr

/-- The input latch (60_exceptions R850, R851). `select` is P1 bits 5:4; bit i of a group is 1 while button i is pressed. -/
structure Input where
  select : BitVec 2
  directions : BitVec 4
  actions : BitVec 4
  deriving DecidableEq, Repr

/-- The MBC1 registers (20_memory R241). -/
structure Mbc1 where
  ramEnabled : Bool
  bank1 : BitVec 5
  bank2 : BitVec 2
  mode : Bool
  deriving DecidableEq, Repr

/-- The MBC5 registers (20_memory R250). -/
structure Mbc5 where
  ramEnabled : Bool
  romb0 : Byte
  romb1 : BitVec 1
  ramb : BitVec 4
  deriving DecidableEq, Repr

/-- The bank controller variants (20_memory R230) with their registers; variant none has none (R240). -/
inductive BankController where
  | direct
  | mbc1 (r : Mbc1)
  | mbc5 (r : Mbc5)
  deriving DecidableEq, Repr

/-- The cartridge (10_state R132, 20_memory R230 to R233): image, its length, the header's bank count and RAM size. -/
structure Cart where
  rom : Memory
  romLength : Nat
  romBanks : Nat
  ram : Memory
  ramSize : Nat
  controller : BankController
  deriving DecidableEq, Repr

/-- A palette index register, BCPS or OCPS (61_video_audio R909). -/
structure PaletteIndex where
  autoIncrement : Bool
  index : BitVec 6
  deriving DecidableEq, Repr

/-- A framebuffer (61_video_audio R928): the lines rendered so far, by line number; a pixel of any other line is a draw. -/
structure Framebuffer where
  buffer : Nat
  lines : List (Nat × List Rgb)
  deriving DecidableEq, Repr

/-- The video controller (61_video_audio R900 to R909). `stat` holds STAT bits 6:3. LY, the mode and the caches are derived. -/
structure Video where
  vram : Memory
  oam : Memory
  lcdc : Byte
  stat : BitVec 4
  scy : Byte
  scx : Byte
  lyc : Byte
  bgp : Byte
  obp0 : Byte
  obp1 : Byte
  wy : Byte
  wx : Byte
  vbk : BitVec 1
  bcps : PaletteIndex
  ocps : PaletteIndex
  bgPalette : Memory
  objPalette : Memory
  front : Framebuffer
  back : Framebuffer
  videoBase : Nat
  prevMatch : Bool
  deriving DecidableEq, Repr

/-- What every audio channel has (61_video_audio R950): its `on` flag, length counter and trigger cycle. -/
structure Channel where
  on : Bool
  length : Nat
  trig : Nat
  deriving DecidableEq, Repr

/-- A volume envelope's running part (61_video_audio R956); direction, period and initial volume are register fields. -/
structure Envelope where
  volume : BitVec 4
  counter : Nat
  deriving DecidableEq, Repr

/-- Channel 1's sweep (61_video_audio R957): the current frequency and the period counter. -/
structure Sweep where
  freq : BitVec 11
  counter : Nat
  deriving DecidableEq, Repr

/-- Channel 4's shift register and the clocks applied to it since the trigger (61_video_audio R960). -/
structure Noise where
  lfsr : BitVec 15
  clocks : Nat
  deriving DecidableEq, Repr

/-- What one sample-output edge hands to the audio sink (61_video_audio R963, 60_exceptions R881): the stereo pair, in units
of 1/480 of full scale (log 13), and the four channel amplitudes of `emit_raw_chans`. -/
structure AudioFrame where
  left : Nat
  right : Nat
  ch1 : Nat
  ch2 : Nat
  ch3 : Nat
  ch4 : Nat
  deriving DecidableEq, Repr

/-- The audio synthesizer (61_video_audio R950 to R953, R965). A register holds its listed bits; unlisted bits are 0. -/
structure Audio where
  nr10 : Byte
  nr11 : Byte
  nr12 : Byte
  nr13 : Byte
  nr14 : Byte
  nr21 : Byte
  nr22 : Byte
  nr23 : Byte
  nr24 : Byte
  nr30 : Byte
  nr31 : Byte
  nr32 : Byte
  nr33 : Byte
  nr34 : Byte
  nr41 : Byte
  nr42 : Byte
  nr43 : Byte
  nr44 : Byte
  nr50 : Byte
  nr51 : Byte
  power : Bool
  ch1 : Channel
  ch2 : Channel
  ch3 : Channel
  ch4 : Channel
  env1 : Envelope
  env2 : Envelope
  env4 : Envelope
  sweep : Sweep
  noise : Noise
  wave : Memory
  nextSample : Nat
  nextLength : Nat
  nextEnvelope : Nat
  nextSweep : Nat
  /-- The model's own output list: the frames emitted so far, the newest first (log 15). -/
  emitted : List AudioFrame
  deriving DecidableEq, Repr

/-- The whole machine (INVENTORY.md, State, gives the rule of each field). -/
structure State where
  regs : Regs
  ime : Bool
  eiPending : Bool
  halted : Bool
  doubleSpeed : Bool
  speedPrep : Bool
  cycles : Nat
  /-- The cycle value of the last pump: `last_t` (61_video_audio R900). -/
  lastPump : Nat
  /-- FAULT (10_state R114): a state in which it is set has no step. -/
  fault : Option StepError
  debugHalt : Bool
  stepResult : StepResult
  breakpoints : List Word
  intBreakpoints : List IntKind
  watchpoints : List Word
  pedantic : Bool
  /-- COLOR_MODE: constant after construction (10_state R116). -/
  colorMode : Bool
  /-- The parameters of 00_scope R13: constant after construction. -/
  cfg : Config
  /-- IE (10_state R120). -/
  ie : Byte
  /-- IF bits 4:0 (10_state R121). -/
  ifr : BitVec 5
  /-- SVBK.WBANK (10_state R123). -/
  svbk : BitVec 3
  dma : Byte
  hdma1 : Byte
  hdma2 : Byte
  hdma3 : Byte
  hdma4 : Byte
  hdma5 : Byte
  wram : Memory
  hram : Memory
  cart : Cart
  timer : Timer
  input : Input
  video : Video
  audio : Audio
  /-- The model's own counter: which draw the unspecified register bits are (log 5). No statement rests on its value. -/
  draw : Nat
  deriving DecidableEq, Repr

/-- Why a step stops for good. -/
inductive Fault where
  /-- Raised by `step` alone, at a state whose FAULT is set: "a faulted state has no step" (60_exceptions R806, R810).
  Safe: the source lets a debugger resume, the model does not (D29). -/
  | faulted (e : StepError)
  deriving DecidableEq, Repr

/-- Why the model gives an instruction no meaning. -/
inductive Refusal where
  /-- Raised by no arm: every constructor of `Instr` has its meaning. Safe. -/
  | notModelled (mnemonic : String)
  deriving DecidableEq, Repr

/-- BOOT_REGS in monochrome mode (70_reset_and_hazards R1001). -/
def Regs.bootMono : Regs where
  a := 0x01
  f := 0xB0
  b := 0x00
  c := 0x13
  d := 0x00
  e := 0xD8
  h := 0x01
  l := 0x4D
  sp := 0xFFFE
  pc := 0x0100

/-- BOOT_REGS in color mode (70_reset_and_hazards R1001). -/
def Regs.bootColor : Regs where
  a := 0x11
  f := 0x80
  b := 0x00
  c := 0x00
  d := 0xFF
  e := 0x56
  h := 0x00
  l := 0x0D
  sp := 0xFFFE
  pc := 0x0100

/-- The timer after construction (R1004). `nextTick` is unused there. DESIGN CHOICE (log 7, unsafe): 0. -/
def Timer.reset : Timer := ⟨0, 0, 0, 0, 0⟩

/-- P1 after construction (R1004): neither group selected, no button pressed. -/
def Input.reset : Input := ⟨3, 0, 0⟩

/-- The video controller after construction (R1003, R1004). -/
def Video.reset : Video where
  vram := .blank (.draw 2)
  oam := .blank (.draw 3)
  lcdc := 0x91
  stat := 0
  scy := 0
  scx := 0
  lyc := 0
  bgp := 0xFC
  obp0 := 0xFF
  obp1 := 0xFF
  wy := 0
  wx := 0
  vbk := 0
  bcps := ⟨false, 0⟩
  ocps := ⟨false, 0⟩
  bgPalette := .blank (.draw 5)
  objPalette := .blank (.draw 6)
  front := ⟨0, []⟩
  back := ⟨1, []⟩
  videoBase := 0
  prevMatch := true

/-- The audio synthesizer after construction, for a sample-output period (R1004, R953). -/
def Audio.reset (samplePeriod : Nat) : Audio where
  nr10 := 0
  nr11 := 0
  nr12 := 0
  nr13 := 0
  nr14 := 0
  nr21 := 0
  nr22 := 0
  nr23 := 0
  nr24 := 0
  nr30 := 0
  nr31 := 0
  nr32 := 0
  nr33 := 0
  nr34 := 0
  nr41 := 0
  nr42 := 0
  nr43 := 0
  nr44 := 0
  nr50 := 0x77
  nr51 := 0xF3
  power := true
  ch1 := ⟨false, 0, 0⟩
  ch2 := ⟨false, 0, 0⟩
  ch3 := ⟨false, 0, 0⟩
  ch4 := ⟨false, 0, 0⟩
  env1 := ⟨0, 0⟩
  env2 := ⟨0, 0⟩
  env4 := ⟨0, 0⟩
  sweep := ⟨0, 0⟩
  noise := ⟨0x7FFF, 0⟩
  wave := .blank (.draw 4)
  nextSample := samplePeriod
  nextLength := 16384
  nextEnvelope := 65536
  nextSweep := 32768
  emitted := []

/-- The cartridge of the reset state: R13 requires a ROM and gives no default. DESIGN CHOICE (log 3, unsafe): the image of
95_test_vectors L3 with no byte listed, 32 KiB of zeros, whose header names no bank controller, two banks and no RAM. -/
def Cart.zero : Cart where
  rom := .blank .zero
  romLength := 0x8000
  romBanks := 2
  ram := .blank (.draw 7)
  ramSize := 0
  controller := .direct

/-- The machine right after construction (R1000 to R1004) from `Cart.zero`: monochrome mode, R13's default parameters. -/
def State.reset : State where
  regs := .bootMono
  ime := false
  eiPending := false
  halted := false
  doubleSpeed := false
  speedPrep := false
  cycles := 0
  lastPump := 0
  fault := none
  debugHalt := false
  stepResult := .ok
  breakpoints := []
  intBreakpoints := []
  watchpoints := []
  pedantic := false
  colorMode := false
  cfg := .standard
  ie := 0
  ifr := 0
  svbk := 0
  dma := 0
  hdma1 := 0
  hdma2 := 0
  hdma3 := 0
  hdma4 := 0
  hdma5 := 0
  wram := .blank (.draw 0)
  hram := .blank (.draw 1)
  cart := .zero
  timer := .reset
  input := .reset
  video := .reset
  audio := .reset 95
  draw := 0

end Sys2Proof.Machine
end

