-- ==== Sys2Proof/Syntax.lean ====
section
/-! DEFINITION. The instructions as syntax: one constructor of `Instr` for each mnemonic of spec/opcode_table.json (its eleven
INVALID rows are one constructor with the opcode byte as operand), and the operand names of 30_encoding R310 to R316. -/

namespace Sys2Proof

/-- An 8-bit register operand (R310, codes 0 to 5 and 7). -/
inductive Reg8 where
  | b | c | d | e | h | l | a
  deriving DecidableEq, Repr

/-- A pair of LD rr,nn, INC rr, DEC rr and ADD HL,rr (R311). -/
inductive Pair where
  | bc | de | hl | sp
  deriving DecidableEq, Repr

/-- A pair of PUSH and POP (R312). -/
inductive StackPair where
  | bc | de | hl | af
  deriving DecidableEq, Repr

/-- A condition (R314). -/
inductive Cond where
  | nz | z | nc | c
  deriving DecidableEq, Repr

/-- The accumulator operations, in the order of the field y (R332). -/
inductive AluOp where
  | add | adc | sub | sbc | and | xor | or | cp
  deriving DecidableEq, Repr

/-- The CB page's rotates, shifts and SWAP, in the order of the field y (R334). -/
inductive RotOp where
  | rlc | rrc | rl | rr | sla | sra | swap | srl
  deriving DecidableEq, Repr

/-- Every instruction. Operands: `n` an immediate byte or high-page offset, `nn` an immediate word or address, `e` a
displacement byte, `u` STOP's ignored byte (46_system R760), `op` an opcode byte without an instruction (R340). -/
inductive Instr where
  | nop
  | ldBCImm16 (nn : Word)
  | ldAtBCA
  | incBC
  | incB
  | decB
  | ldBImm8 (n : Byte)
  | rlca
  | ldAtA16SP (nn : Word)
  | addHLBC
  | ldAAtBC
  | decBC
  | incC
  | decC
  | ldCImm8 (n : Byte)
  | rrca
  | stop (u : Byte)
  | ldDEImm16 (nn : Word)
  | ldAtDEA
  | incDE
  | incD
  | decD
  | ldDImm8 (n : Byte)
  | rla
  | jrE8 (e : Byte)
  | addHLDE
  | ldAAtDE
  | decDE
  | incE
  | decE
  | ldEImm8 (n : Byte)
  | rra
  | jrNZE8 (e : Byte)
  | ldHLImm16 (nn : Word)
  | ldAtHLIncA
  | incHL
  | incH
  | decH
  | ldHImm8 (n : Byte)
  | daa
  | jrZE8 (e : Byte)
  | addHLHL
  | ldAAtHLInc
  | decHL
  | incL
  | decL
  | ldLImm8 (n : Byte)
  | cpl
  | jrNCE8 (e : Byte)
  | ldSPImm16 (nn : Word)
  | ldAtHLDecA
  | incSP
  | incAtHL
  | decAtHL
  | ldAtHLImm8 (n : Byte)
  | scf
  | jrCE8 (e : Byte)
  | addHLSP
  | ldAAtHLDec
  | decSP
  | incA
  | decA
  | ldAImm8 (n : Byte)
  | ccf
  | ldBB
  | ldBC
  | ldBD
  | ldBE
  | ldBH
  | ldBL
  | ldBAtHL
  | ldBA
  | ldCB
  | ldCC
  | ldCD
  | ldCE
  | ldCH
  | ldCL
  | ldCAtHL
  | ldCA
  | ldDB
  | ldDC
  | ldDD
  | ldDE
  | ldDH
  | ldDL
  | ldDAtHL
  | ldDA
  | ldEB
  | ldEC
  | ldED
  | ldEE
  | ldEH
  | ldEL
  | ldEAtHL
  | ldEA
  | ldHB
  | ldHC
  | ldHD
  | ldHE
  | ldHH
  | ldHL
  | ldHAtHL
  | ldHA
  | ldLB
  | ldLC
  | ldLD
  | ldLE
  | ldLH
  | ldLL
  | ldLAtHL
  | ldLA
  | ldAtHLB
  | ldAtHLC
  | ldAtHLD
  | ldAtHLE
  | ldAtHLH
  | ldAtHLL
  | halt
  | ldAtHLA
  | ldAB
  | ldAC
  | ldAD
  | ldAE
  | ldAH
  | ldAL
  | ldAAtHL
  | ldAA
  | addAB
  | addAC
  | addAD
  | addAE
  | addAH
  | addAL
  | addAAtHL
  | addAA
  | adcAB
  | adcAC
  | adcAD
  | adcAE
  | adcAH
  | adcAL
  | adcAAtHL
  | adcAA
  | subAB
  | subAC
  | subAD
  | subAE
  | subAH
  | subAL
  | subAAtHL
  | subAA
  | sbcAB
  | sbcAC
  | sbcAD
  | sbcAE
  | sbcAH
  | sbcAL
  | sbcAAtHL
  | sbcAA
  | andAB
  | andAC
  | andAD
  | andAE
  | andAH
  | andAL
  | andAAtHL
  | andAA
  | xorAB
  | xorAC
  | xorAD
  | xorAE
  | xorAH
  | xorAL
  | xorAAtHL
  | xorAA
  | orAB
  | orAC
  | orAD
  | orAE
  | orAH
  | orAL
  | orAAtHL
  | orAA
  | cpAB
  | cpAC
  | cpAD
  | cpAE
  | cpAH
  | cpAL
  | cpAAtHL
  | cpAA
  | retNZ
  | popBC
  | jpNZA16 (nn : Word)
  | jpA16 (nn : Word)
  | callNZA16 (nn : Word)
  | pushBC
  | addAImm8 (n : Byte)
  | rst00
  | retZ
  | ret
  | jpZA16 (nn : Word)
  | callZA16 (nn : Word)
  | callA16 (nn : Word)
  | adcAImm8 (n : Byte)
  | rst08
  | retNC
  | popDE
  | jpNCA16 (nn : Word)
  | invalid (op : Byte)
  | callNCA16 (nn : Word)
  | pushDE
  | subAImm8 (n : Byte)
  | rst10
  | retC
  | reti
  | jpCA16 (nn : Word)
  | callCA16 (nn : Word)
  | sbcAImm8 (n : Byte)
  | rst18
  | ldhAtA8A (n : Byte)
  | popHL
  | ldAtCA
  | pushHL
  | andAImm8 (n : Byte)
  | rst20
  | addSPE8 (e : Byte)
  | jpHL
  | ldAtA16A (nn : Word)
  | xorAImm8 (n : Byte)
  | rst28
  | ldhAAtA8 (n : Byte)
  | popAF
  | ldAAtC
  | di
  | pushAF
  | orAImm8 (n : Byte)
  | rst30
  | ldHLSPE8 (e : Byte)
  | ldSPHL
  | ldAAtA16 (nn : Word)
  | ei
  | cpAImm8 (n : Byte)
  | rst38
  | rlcB
  | rlcC
  | rlcD
  | rlcE
  | rlcH
  | rlcL
  | rlcAtHL
  | rlcA
  | rrcB
  | rrcC
  | rrcD
  | rrcE
  | rrcH
  | rrcL
  | rrcAtHL
  | rrcA
  | rlB
  | rlC
  | rlD
  | rlE
  | rlH
  | rlL
  | rlAtHL
  | rlA
  | rrB
  | rrC
  | rrD
  | rrE
  | rrH
  | rrL
  | rrAtHL
  | rrA
  | slaB
  | slaC
  | slaD
  | slaE
  | slaH
  | slaL
  | slaAtHL
  | slaA
  | sraB
  | sraC
  | sraD
  | sraE
  | sraH
  | sraL
  | sraAtHL
  | sraA
  | swapB
  | swapC
  | swapD
  | swapE
  | swapH
  | swapL
  | swapAtHL
  | swapA
  | srlB
  | srlC
  | srlD
  | srlE
  | srlH
  | srlL
  | srlAtHL
  | srlA
  | bit0B
  | bit0C
  | bit0D
  | bit0E
  | bit0H
  | bit0L
  | bit0AtHL
  | bit0A
  | bit1B
  | bit1C
  | bit1D
  | bit1E
  | bit1H
  | bit1L
  | bit1AtHL
  | bit1A
  | bit2B
  | bit2C
  | bit2D
  | bit2E
  | bit2H
  | bit2L
  | bit2AtHL
  | bit2A
  | bit3B
  | bit3C
  | bit3D
  | bit3E
  | bit3H
  | bit3L
  | bit3AtHL
  | bit3A
  | bit4B
  | bit4C
  | bit4D
  | bit4E
  | bit4H
  | bit4L
  | bit4AtHL
  | bit4A
  | bit5B
  | bit5C
  | bit5D
  | bit5E
  | bit5H
  | bit5L
  | bit5AtHL
  | bit5A
  | bit6B
  | bit6C
  | bit6D
  | bit6E
  | bit6H
  | bit6L
  | bit6AtHL
  | bit6A
  | bit7B
  | bit7C
  | bit7D
  | bit7E
  | bit7H
  | bit7L
  | bit7AtHL
  | bit7A
  | res0B
  | res0C
  | res0D
  | res0E
  | res0H
  | res0L
  | res0AtHL
  | res0A
  | res1B
  | res1C
  | res1D
  | res1E
  | res1H
  | res1L
  | res1AtHL
  | res1A
  | res2B
  | res2C
  | res2D
  | res2E
  | res2H
  | res2L
  | res2AtHL
  | res2A
  | res3B
  | res3C
  | res3D
  | res3E
  | res3H
  | res3L
  | res3AtHL
  | res3A
  | res4B
  | res4C
  | res4D
  | res4E
  | res4H
  | res4L
  | res4AtHL
  | res4A
  | res5B
  | res5C
  | res5D
  | res5E
  | res5H
  | res5L
  | res5AtHL
  | res5A
  | res6B
  | res6C
  | res6D
  | res6E
  | res6H
  | res6L
  | res6AtHL
  | res6A
  | res7B
  | res7C
  | res7D
  | res7E
  | res7H
  | res7L
  | res7AtHL
  | res7A
  | set0B
  | set0C
  | set0D
  | set0E
  | set0H
  | set0L
  | set0AtHL
  | set0A
  | set1B
  | set1C
  | set1D
  | set1E
  | set1H
  | set1L
  | set1AtHL
  | set1A
  | set2B
  | set2C
  | set2D
  | set2E
  | set2H
  | set2L
  | set2AtHL
  | set2A
  | set3B
  | set3C
  | set3D
  | set3E
  | set3H
  | set3L
  | set3AtHL
  | set3A
  | set4B
  | set4C
  | set4D
  | set4E
  | set4H
  | set4L
  | set4AtHL
  | set4A
  | set5B
  | set5C
  | set5D
  | set5E
  | set5H
  | set5L
  | set5AtHL
  | set5A
  | set6B
  | set6C
  | set6D
  | set6E
  | set6H
  | set6L
  | set6AtHL
  | set6A
  | set7B
  | set7C
  | set7D
  | set7E
  | set7H
  | set7L
  | set7AtHL
  | set7A
  deriving DecidableEq, Repr

end Sys2Proof
end

