-- ==== Sys2Proof/Machine/Registers.lean ====
section
/-! DEFINITION. Reading and writing the registers and the pairs (10_state R100 to R107, 00_scope R16). F is read and written
here only, with its low nibble 0 (R103). -/

namespace Sys2Proof.Machine

/-- `x[F]`: bits 3:0 read as 0 (R103). -/
def State.flagByte (s : State) : Byte := s.regs.f &&& 0xF0

/-- `x[F] <- v & 0xF0` (R103). -/
def State.setFlagByte (s : State) (v : Byte) : State := { s with regs := { s.regs with f := v &&& 0xF0 } }

/-- `x[r]` for an 8-bit register operand (R310). -/
def State.reg (s : State) : Reg8 → Byte
  | .b => s.regs.b
  | .c => s.regs.c
  | .d => s.regs.d
  | .e => s.regs.e
  | .h => s.regs.h
  | .l => s.regs.l
  | .a => s.regs.a

/-- `x[r] <- v`. -/
def State.setReg (s : State) (r : Reg8) (v : Byte) : State :=
  match r with
  | .b => { s with regs := { s.regs with b := v } }
  | .c => { s with regs := { s.regs with c := v } }
  | .d => { s with regs := { s.regs with d := v } }
  | .e => { s with regs := { s.regs with e := v } }
  | .h => { s with regs := { s.regs with h := v } }
  | .l => { s with regs := { s.regs with l := v } }
  | .a => { s with regs := { s.regs with a := v } }

def State.setPc (s : State) (w : Word) : State := { s with regs := { s.regs with pc := w } }

def State.setSp (s : State) (w : Word) : State := { s with regs := { s.regs with sp := w } }

/-- `x[BC]` is B:C (R102). -/
def State.bc (s : State) : Word := concat16 s.regs.b s.regs.c

/-- `x[DE]` is D:E (R102). -/
def State.de (s : State) : Word := concat16 s.regs.d s.regs.e

/-- `x[HL]` is H:L (R102). -/
def State.hl (s : State) : Word := concat16 s.regs.h s.regs.l

/-- `x[AF]` is A:F, the low nibble of F as 0 (R102, R103). -/
def State.af (s : State) : Word := concat16 s.regs.a s.flagByte

def State.setBc (s : State) (w : Word) : State := { s with regs := { s.regs with b := hiByte w, c := loByte w } }

def State.setDe (s : State) (w : Word) : State := { s with regs := { s.regs with d := hiByte w, e := loByte w } }

def State.setHl (s : State) (w : Word) : State := { s with regs := { s.regs with h := hiByte w, l := loByte w } }

/-- Writing AF writes A and the flags, the low nibble of the low byte discarded (R103, R455). -/
def State.setAf (s : State) (w : Word) : State := { s with regs := { s.regs with a := hiByte w, f := loByte w &&& 0xF0 } }

/-- A pair of LD, INC, DEC and ADD HL (R311). -/
def State.pair (s : State) : Pair → Word
  | .bc => s.bc
  | .de => s.de
  | .hl => s.hl
  | .sp => s.regs.sp

def State.setPair (s : State) (p : Pair) (w : Word) : State :=
  match p with
  | .bc => s.setBc w
  | .de => s.setDe w
  | .hl => s.setHl w
  | .sp => s.setSp w

/-- A pair of PUSH and POP (R312). -/
def State.stackPair (s : State) : StackPair → Word
  | .bc => s.bc
  | .de => s.de
  | .hl => s.hl
  | .af => s.af

def State.setStackPair (s : State) (p : StackPair) (w : Word) : State :=
  match p with
  | .bc => s.setBc w
  | .de => s.setDe w
  | .hl => s.setHl w
  | .af => s.setAf w

end Sys2Proof.Machine
end

