-- ==== Sys2Proof/Machine/Flags.lean ====
section
/-! DEFINITION. The four flags (10_state R104, R105) and every flag computation: the arithmetic and logic primitives of
42_alu8 R501 to R509, the 16-bit ones of 43_alu16 and the rotates and shifts of 44_rotate_shift_bit R656 to R659. Sums are
taken as exact numbers, then narrowed (00_scope R15). -/

namespace Sys2Proof.Machine

/-- The flags Z, N, H, C (R104). -/
structure Flags where
  z : Bool
  n : Bool
  h : Bool
  c : Bool
  deriving DecidableEq, Repr

/-- F from the flags: Z bit 7, N bit 6, H bit 5, C bit 4, bits 3:0 zero (R103, R104). -/
def Flags.toByte (f : Flags) : Byte := bitByte 7 f.z ||| bitByte 6 f.n ||| bitByte 5 f.h ||| bitByte 4 f.c

/-- The flags of a byte (R104). -/
def flagsOf (v : Byte) : Flags := ⟨bitAt v 7, bitAt v 6, bitAt v 5, bitAt v 4⟩

def State.flags (s : State) : Flags := flagsOf s.flagByte

def State.setFlags (s : State) (f : Flags) : State := s.setFlagByte f.toByte

/-- `cond(c)` (45_control R700). -/
def State.cond (s : State) : Cond → Bool
  | .nz => !s.flags.z
  | .z => s.flags.z
  | .nc => !s.flags.c
  | .c => s.flags.c

/-- `add8(a, v, cin)` (R501). -/
def add8 (a v : Byte) (cin : Bool) : Byte × Flags :=
  let t := a.toNat + v.toNat + bitNat cin
  let r := BitVec.ofNat 8 t
  (r, ⟨decide (r = 0), false, decide (a.toNat % 16 + v.toNat % 16 + bitNat cin > 0x0F), decide (t > 0xFF)⟩)

/-- `sub8(a, v, cin)` (R502). -/
def sub8 (a v : Byte) (cin : Bool) : Byte × Flags :=
  let r := a - v - BitVec.ofNat 8 (bitNat cin)
  (r, ⟨decide (r = 0), true, decide (a.toNat % 16 < v.toNat % 16 + bitNat cin), decide (a.toNat < v.toNat + bitNat cin)⟩)

/-- `and8(a, v)` (R503). -/
def and8 (a v : Byte) : Byte × Flags := (a &&& v, ⟨decide (a &&& v = 0), false, true, false⟩)

/-- `xor8(a, v)` (R504). -/
def xor8 (a v : Byte) : Byte × Flags := (a ^^^ v, ⟨decide (a ^^^ v = 0), false, false, false⟩)

/-- `or8(a, v)` (R505). -/
def or8 (a v : Byte) : Byte × Flags := (a ||| v, ⟨decide (a ||| v = 0), false, false, false⟩)

/-- `cp8(a, v)`: the flags of `sub8(a, v, 0)`, A kept (R506). -/
def cp8 (a v : Byte) : Byte × Flags := (a, (sub8 a v false).2)

/-- `inc8(a)`, C unchanged (R507). -/
def inc8 (a : Byte) (f : Flags) : Byte × Flags :=
  (a + 1, { f with z := decide (a + 1 = 0), n := false, h := decide (a &&& 0x0F = 0x0F) })

/-- `dec8(a)`, C unchanged (R508). -/
def dec8 (a : Byte) (f : Flags) : Byte × Flags :=
  (a - 1, { f with z := decide (a - 1 = 0), n := true, h := decide (a &&& 0x0F = 0) })

/-- `daa(a, N, H, C)` (R509). -/
def daa8 (a : Byte) (f : Flags) : Byte × Flags :=
  if f.n then
    let a1 := if f.c then a - 0x60 else a
    let a2 := if f.h then a1 - 0x06 else a1
    (a2, { f with z := decide (a2 = 0), h := false })
  else
    let big := f.c || decide (a.toNat > 0x99)
    let a1 := if big then a + 0x60 else a
    let a2 := if f.h || decide ((a1 &&& 0x0F).toNat > 0x09) then a1 + 0x06 else a1
    (a2, { f with z := decide (a2 = 0), h := false, c := big })

/-- ADD HL,rr: N, H from bit 11 and C from bit 15, Z unchanged (43_alu16 R600). -/
def addHl16 (h v : Word) (f : Flags) : Word × Flags :=
  (h + v, { f with n := false, h := decide (h.toNat % 0x1000 + v.toNat % 0x1000 > 0x0FFF)
                   c := decide (h.toNat + v.toNat > 0xFFFF) })

/-- SP plus a signed displacement: Z and N 0, H and C from the unsigned low-byte add (43_alu16 R603, R604). -/
def addSp16 (sp : Word) (u : Byte) : Word × Flags :=
  (sp + sext16 u, ⟨false, false, decide (sp.toNat % 0x10 + u.toNat % 0x10 > 0x0F), decide (sp.toNat % 0x100 + u.toNat > 0xFF)⟩)

/-- `rlc8(v)` (R656). -/
def rlc8 (v : Byte) : Byte × Bool := (v <<< 1 ||| bitByte 0 (bitAt v 7), bitAt v 7)

/-- `rrc8(v)` (R656). -/
def rrc8 (v : Byte) : Byte × Bool := (v >>> 1 ||| bitByte 7 (bitAt v 0), bitAt v 0)

/-- `rl8(v, cin)` (R656). -/
def rl8 (v : Byte) (cin : Bool) : Byte × Bool := (v <<< 1 ||| bitByte 0 cin, bitAt v 7)

/-- `rr8(v, cin)` (R656). -/
def rr8 (v : Byte) (cin : Bool) : Byte × Bool := (v >>> 1 ||| bitByte 7 cin, bitAt v 0)

/-- `sla8(v)` (R657). -/
def sla8 (v : Byte) : Byte × Bool := (v <<< 1, bitAt v 7)

/-- `sra8(v)` (R657). -/
def sra8 (v : Byte) : Byte × Bool := (v >>> 1 ||| bitByte 7 (bitAt v 7), bitAt v 0)

/-- `srl8(v)` (R657). -/
def srl8 (v : Byte) : Byte × Bool := (v >>> 1, bitAt v 0)

/-- `swap8(v)` (R658); SWAP clears C (R659). -/
def swap8 (v : Byte) : Byte × Bool := ((v <<< 4 &&& 0xF0) ||| v >>> 4, false)

/-- The result and flags of an accumulator operation on A and an operand, with the carry flag in (R500 to R506). -/
def aluResult (op : AluOp) (a v : Byte) (cin : Bool) : Byte × Flags :=
  match op with
  | .add => add8 a v false
  | .adc => add8 a v cin
  | .sub => sub8 a v false
  | .sbc => sub8 a v cin
  | .and => and8 a v
  | .xor => xor8 a v
  | .or => or8 a v
  | .cp => cp8 a v

/-- The result and the bit shifted out of a CB rotate, shift or SWAP (R656 to R658). -/
def rotShift (op : RotOp) (v : Byte) (cin : Bool) : Byte × Bool :=
  match op with
  | .rlc => rlc8 v
  | .rrc => rrc8 v
  | .rl => rl8 v cin
  | .rr => rr8 v cin
  | .sla => sla8 v
  | .sra => sra8 v
  | .swap => swap8 v
  | .srl => srl8 v

/-- A CB rotate, shift or SWAP with its flags: Z from the result, N and H 0, C the bit shifted out (R659). -/
def rotResult (op : RotOp) (v : Byte) (cin : Bool) : Byte × Flags :=
  let r := rotShift op v cin
  (r.1, ⟨decide (r.1 = 0), false, false, r.2⟩)

/-- BIT b: Z the complement of the bit, N 0, H 1, C unchanged (R680). -/
def bitTest (b : Nat) (v : Byte) (f : Flags) : Flags := { f with z := !bitAt v b, n := false, h := true }

/-- RES b: `v & ~(1 << b)` (R682). -/
def clearBit (b : Nat) (v : Byte) : Byte := v &&& ~~~(1 <<< b : Byte)

/-- SET b: `v | (1 << b)` (R684). -/
def insertBit (b : Nat) (v : Byte) : Byte := v ||| (1 <<< b : Byte)

end Sys2Proof.Machine
end

