-- ==== Sys2Proof/WellFormed.lean ====
section
/-! DEFINITION. Which instruction terms are well formed. Every operand type but one holds exactly the values its encoding
admits; the one check is that `invalid` carries one of the eleven bytes of 30_encoding R340. -/

namespace Sys2Proof

/-- The eleven opcode bytes that have no instruction (R340). -/
def invalidOpcodes : List Byte :=
  [0xD3, 0xDB, 0xDD, 0xE3, 0xE4, 0xEB, 0xEC, 0xED, 0xF4, 0xFC, 0xFD]

/-- Well-formedness: only `invalid` has an operand with a value that no encoding carries. -/
def Instr.wellFormed : Instr → Bool
  | .invalid op => invalidOpcodes.contains op
  | _ => true

end Sys2Proof
end

