-- ==== Sys2Proof/Machine/Audio.lean ====
section
/-! DEFINITION. The audio synthesizer (61_video_audio R950 to R965): registers, triggers, the four timers, the channel
amplitudes and the mixer. -/

namespace Sys2Proof.Machine

/-- The audio registers (R951). -/
inductive AudioReg where
  | nr10 | nr11 | nr12 | nr13 | nr14
  | nr21 | nr22 | nr23 | nr24
  | nr30 | nr31 | nr32 | nr33 | nr34
  | nr41 | nr42 | nr43 | nr44
  | nr50 | nr51 | nr52
  deriving DecidableEq, Repr

/-- The 11-bit frequency of an NRx4:NRx3 pair (R951). -/
def freqOf (nrx4 nrx3 : Byte) : BitVec 11 := nrx4.extractLsb' 0 3 ++ nrx3

/-- The length enable, NRx4 bit 6 (R951). -/
def lengthEnable (nrx4 : Byte) : Bool := bitAt nrx4 6

/-- What a trigger does to every channel (R961): `on`, `trig`, and a zero length counter reloaded in full. -/
def Channel.trigger (c : Channel) (t full : Nat) : Channel := ⟨true, if c.length = 0 then full else c.length, t⟩

/-- What a trigger does to an envelope: the initial volume of NRx2, counter 0 (R961). -/
def envelopeStart (nrx2 : Byte) : Envelope := ⟨nrx2.extractLsb' 4 4, 0⟩

/-- Channel 1 triggered at cycle `t` (R961). -/
def Audio.trigger1 (u : Audio) (t : Nat) : Audio :=
  { u with ch1 := u.ch1.trigger t 64, env1 := envelopeStart u.nr12, sweep := ⟨freqOf u.nr14 u.nr13, 0⟩ }

/-- Channel 2 triggered at cycle `t` (R961). -/
def Audio.trigger2 (u : Audio) (t : Nat) : Audio :=
  { u with ch2 := u.ch2.trigger t 64, env2 := envelopeStart u.nr22 }

/-- Channel 3 triggered at cycle `t` (R961). -/
def Audio.trigger3 (u : Audio) (t : Nat) : Audio := { u with ch3 := u.ch3.trigger t 256 }

/-- Channel 4 triggered at cycle `t` (R961). -/
def Audio.trigger4 (u : Audio) (t : Nat) : Audio :=
  { u with ch4 := u.ch4.trigger t 64, env4 := envelopeStart u.nr42, noise := ⟨0x7FFF, 0⟩ }

/-- A length counter loaded (R951). -/
def Channel.loadLength (c : Channel) (n : Nat) : Channel := { c with length := n }

/-- Every `on` flag and the power bit cleared (R965). -/
def Audio.powerOff (u : Audio) : Audio :=
  { u with
    power := false
    ch1 := { u.ch1 with on := false }
    ch2 := { u.ch2 with on := false }
    ch3 := { u.ch3 with on := false }
    ch4 := { u.ch4 with on := false } }

/-- A write of an audio register at cycle `t`: the listed bits are stored, then a length load or a trigger takes effect
(R951, R961, R965). Bit 7 of NRx4 is an action, not stored. -/
def Audio.write (u : Audio) (r : AudioReg) (v : Byte) (t : Nat) : Audio :=
  match r with
  | .nr10 => { u with nr10 := v &&& 0x7F }
  | .nr11 => { u with nr11 := v, ch1 := u.ch1.loadLength (64 - (v &&& 0x3F).toNat) }
  | .nr12 => { u with nr12 := v }
  | .nr13 => { u with nr13 := v }
  | .nr14 => let u1 := { u with nr14 := v &&& 0x47 }; if bitAt v 7 then u1.trigger1 t else u1
  | .nr21 => { u with nr21 := v, ch2 := u.ch2.loadLength (64 - (v &&& 0x3F).toNat) }
  | .nr22 => { u with nr22 := v }
  | .nr23 => { u with nr23 := v }
  | .nr24 => let u1 := { u with nr24 := v &&& 0x47 }; if bitAt v 7 then u1.trigger2 t else u1
  | .nr30 => { u with nr30 := v &&& 0x80 }
  | .nr31 => { u with nr31 := v, ch3 := u.ch3.loadLength (256 - v.toNat) }
  | .nr32 => { u with nr32 := v &&& 0x60 }
  | .nr33 => { u with nr33 := v }
  | .nr34 => let u1 := { u with nr34 := v &&& 0x47 }; if bitAt v 7 then u1.trigger3 t else u1
  | .nr41 => { u with nr41 := v &&& 0x3F, ch4 := u.ch4.loadLength (64 - (v &&& 0x3F).toNat) }
  | .nr42 => { u with nr42 := v }
  | .nr43 => { u with nr43 := v }
  | .nr44 => let u1 := { u with nr44 := v &&& 0x40 }; if bitAt v 7 then u1.trigger4 t else u1
  | .nr50 => { u with nr50 := v }
  | .nr51 => { u with nr51 := v }
  | .nr52 => if bitAt v 7 then { u with power := true } else u.powerOff

/-- NR52's defined bits: power in bit 7, the `on` flags of channels 4 to 1 in bits 3:0 (R964). -/
def Audio.nr52 (u : Audio) : Byte :=
  bitByte 7 u.power ||| bitByte 3 u.ch4.on ||| bitByte 2 u.ch3.on ||| bitByte 1 u.ch2.on ||| bitByte 0 u.ch1.on

/-- The four fixed 8-step duty patterns (R954). -/
def dutyStep (duty : BitVec 2) (step : Nat) : Nat :=
  match duty.toFin with
  | 0 => [0, 0, 0, 0, 0, 0, 0, 1].getD step 0
  | 1 => [1, 0, 0, 0, 0, 0, 0, 1].getD step 0
  | 2 => [1, 0, 0, 0, 0, 1, 1, 1].getD step 0
  | 3 => [0, 1, 1, 1, 1, 1, 1, 0].getD step 0

/-- A channel is silent: off, its enabled length counter at zero, or the power off (R958, R962). -/
def Audio.silent (u : Audio) (c : Channel) (nrx4 : Byte) : Bool :=
  !c.on || (lengthEnable nrx4 && decide (c.length = 0)) || !u.power

/-- A pulse channel's amplitude at cycle `t` (R955). -/
def pulseAmplitude (nrx1 : Byte) (f : Nat) (trig : Nat) (volume : BitVec 4) (t : Nat) : Nat :=
  dutyStep (nrx1.extractLsb' 6 2) ((t - trig) / (4 * (2048 - f)) % 8) * volume.toNat

/-- Channel 1 sampled at cycle `t`: its frequency is the sweep's current one (R955, R962). -/
def Audio.amplitude1 (u : Audio) (t : Nat) : Nat :=
  if u.silent u.ch1 u.nr14 then 0 else pulseAmplitude u.nr11 u.sweep.freq.toNat u.ch1.trig u.env1.volume t

/-- Channel 2 sampled at cycle `t` (R955, R962). -/
def Audio.amplitude2 (u : Audio) (t : Nat) : Nat :=
  if u.silent u.ch2 u.nr24 then 0 else pulseAmplitude u.nr21 (freqOf u.nr24 u.nr23).toNat u.ch2.trig u.env2.volume t

/-- Sample k of the wave RAM: the high nibble of a byte first (R952). -/
def waveSample (m : Memory) (k : Nat) : Nat :=
  let b := (m.read (k / 2)).toNat
  if k % 2 = 0 then b / 16 else b % 16

/-- `[4, 0, 1, 2][level]`, the shift of NR32 bits 6:5 (R959). -/
def waveShift (nr32 : Byte) : Nat :=
  match (nr32.extractLsb' 5 2).toFin with
  | 0 => 4
  | 1 => 0
  | 2 => 1
  | 3 => 2

/-- Channel 3 sampled at cycle `t` (R959, R962). -/
def Audio.amplitude3 (u : Audio) (t : Nat) : Nat :=
  if u.silent u.ch3 u.nr34 || !bitAt u.nr30 7 then 0
  else waveSample u.wave ((t - u.ch3.trig) / (2 * (2048 - (freqOf u.nr34 u.nr33).toNat)) % 32) / 2 ^ waveShift u.nr32

/-- `P_n`, the noise clock period: the divisor table shifted left by s (R960). -/
def noisePeriod (nr43 : Byte) : Nat :=
  [8, 16, 32, 48, 64, 80, 96, 112].getD (nr43 &&& 7).toNat 8 * 2 ^ (nr43.toNat / 16)

/-- One clock of the shift register, NR43 bit 3 selecting the 7-bit width (R960). -/
def lfsrClock (narrow : Bool) (l : BitVec 15) : BitVec 15 :=
  let x := bitAt l 0 ^^ bitAt l 1
  let l1 : BitVec 15 := (l >>> 1) ||| (if x then 0x4000 else 0)
  if narrow then (l1 &&& ~~~(0x40 : BitVec 15)) ||| (if x then 0x40 else 0) else l1

/-- `n` clocks of the shift register. -/
def lfsrClocks (narrow : Bool) : Nat → BitVec 15 → BitVec 15
  | 0, l => l
  | n + 1, l => lfsrClocks narrow n (lfsrClock narrow l)

/-- The shift register brought to cycle `t`: the clocks due since the trigger, less those already applied (R960, log 16). -/
def Audio.advanceNoise (u : Audio) (t : Nat) : Audio :=
  let due := (t - u.ch4.trig) / noisePeriod u.nr43
  { u with noise := ⟨lfsrClocks (bitAt u.nr43 3) (due - u.noise.clocks) u.noise.lfsr, max due u.noise.clocks⟩ }

/-- Channel 4's amplitude from its shift register (R960, R962). -/
def Audio.amplitude4 (u : Audio) : Nat :=
  if u.silent u.ch4 u.nr44 then 0 else (1 - bitNat (bitAt u.noise.lfsr 0)) * u.env4.volume.toNat

/-- The amplitudes a side's enable nibble of NR51 lets through, summed (R963). -/
def sideSum (m : MixInput) (shift : Nat) : Nat :=
  bitNat (bitAt m.nr51 shift) * m.a1 + bitNat (bitAt m.nr51 (shift + 1)) * m.a2 +
    bitNat (bitAt m.nr51 (shift + 2)) * m.a3 + bitNat (bitAt m.nr51 (shift + 3)) * m.a4

/-- `AUDIO_MIX` (R963): (0, 0) when every contributing amplitude is 0, for every parameter; else the parameter's entry, or
the default `sum / 15 * (volume + 1) / 32`, in units of 1/480 (log 13). -/
def audioMix (cfg : Config) (m : MixInput) : Nat × Nat :=
  let left := sideSum m 4
  let right := sideSum m 0
  if left = 0 ∧ right = 0 then (0, 0)
  else lookupD m (left * ((m.nr50.toNat / 16) % 8 + 1), right * (m.nr50.toNat % 8 + 1)) cfg.audioMix

/-- The sample-output edge at cycle `t`: every channel sampled, mixed and handed to the sink (R963). -/
def Audio.sampleEdge (u : Audio) (cfg : Config) (t : Nat) : Audio :=
  let u1 := u.advanceNoise t
  let a1 := u1.amplitude1 t
  let a2 := u1.amplitude2 t
  let a3 := u1.amplitude3 t
  let a4 := u1.amplitude4
  let p := audioMix cfg ⟨a1, a2, a3, a4, u1.nr50, u1.nr51⟩
  { u1 with emitted := ⟨p.1, p.2, a1, a2, a3, a4⟩ :: u1.emitted }

/-- A length-timer edge on one channel (R958). -/
def Channel.lengthEdge (c : Channel) (nrx4 : Byte) : Channel :=
  if lengthEnable nrx4 && decide (0 < c.length) then { c with length := c.length - 1 } else c

/-- The length-timer edge (R958). -/
def Audio.lengthEdge (u : Audio) : Audio :=
  { u with
    ch1 := u.ch1.lengthEdge u.nr14
    ch2 := u.ch2.lengthEdge u.nr24
    ch3 := u.ch3.lengthEdge u.nr34
    ch4 := u.ch4.lengthEdge u.nr44 }

/-- An envelope-timer edge on one channel, NRx2 giving direction and period (R956). -/
def Envelope.edge (e : Envelope) (nrx2 : Byte) : Envelope :=
  let p := (nrx2 &&& 7).toNat
  if p = 0 then e
  else if p ≤ e.counter + 1 then
    if bitAt nrx2 3 then ⟨if e.volume.toNat < 15 then e.volume + 1 else e.volume, 0⟩
    else ⟨if 0 < e.volume.toNat then e.volume - 1 else e.volume, 0⟩
  else { e with counter := e.counter + 1 }

/-- The envelope-timer edge: channels 1, 2 and 4 (R956). -/
def Audio.envelopeEdge (u : Audio) : Audio :=
  { u with env1 := u.env1.edge u.nr12, env2 := u.env2.edge u.nr22, env4 := u.env4.edge u.nr42 }

/-- The sweep's next frequency: a shifted copy added, clamped at 2047, or subtracted (R957). -/
def sweptFreq (f : Nat) (nr10 : Byte) : Nat :=
  let delta := f / 2 ^ (nr10 &&& 7).toNat
  if bitAt nr10 3 then f - delta else min (f + delta) 2047

/-- The sweep-timer edge: channel 1 (R957). -/
def Audio.sweepEdge (u : Audio) : Audio :=
  let p := (u.nr10.toNat / 16) % 8
  if p = 0 ∨ (u.nr10 &&& 7).toNat = 0 then u
  else if p ≤ u.sweep.counter + 1 then
    { u with sweep := ⟨BitVec.ofNat 11 (sweptFreq u.sweep.freq.toNat u.nr10), 0⟩ }
  else { u with sweep := { u.sweep with counter := u.sweep.counter + 1 } }

/-- `P_s = 4,194,304 div sample_rate()` (R953). Construction refuses the rates for which it is 0; `max 1` keeps the
function total (log 18). -/
def samplePeriod (cfg : Config) : Nat := max 1 (4194304 / cfg.sampleRate)

/-- The cycle value of the audio synthesizer's next edge (R953). -/
def Audio.nextEdge (u : Audio) : Nat := min (min u.nextSample u.nextLength) (min u.nextEnvelope u.nextSweep)

/-- The next edge handled; at one cycle value in the order sample-output, length, envelope, sweep (R953). -/
def Audio.edge (u : Audio) (cfg : Config) : Audio :=
  let t := u.nextEdge
  if u.nextSample = t then { u.sampleEdge cfg t with nextSample := t + samplePeriod cfg }
  else if u.nextLength = t then { u.lengthEdge with nextLength := t + 16384 }
  else if u.nextEnvelope = t then { u.envelopeEdge with nextEnvelope := t + 65536 }
  else { u.sweepEdge with nextSweep := t + 32768 }

/-- The edges up to cycle `t`, in time order, at most `fuel` of them (R953). -/
def Audio.edges (cfg : Config) (t : Nat) : Nat → Audio → Audio
  | 0, u => u
  | fuel + 1, u => if u.nextEdge ≤ t then Audio.edges cfg t fuel (u.edge cfg) else u

/-- The audio part of a pump to cycle `t` (R812, R953): four timers of period at least 1 have at most `4 (t + 1)` edges. -/
def Audio.pump (u : Audio) (cfg : Config) (t : Nat) : Audio := Audio.edges cfg t (4 * (t + 1)) u

end Sys2Proof.Machine
end

