-- ==== Sys2Proof/Machine/Cartridge.lean ====
section
/-! DEFINITION. The cartridge: bank controllers and physical offsets (20_memory R233 to R253). -/

namespace Sys2Proof.Machine

/-- The ROM bank MBC1 maps at 0000-3FFF (R243, R244). -/
def Mbc1.lowBank (r : Mbc1) : Mbc1Mode → Nat
  | .hardware => if r.mode then r.bank2.toNat * 32 else 0
  | .simple => 0

/-- The ROM bank MBC1 maps at 4000-7FFF (R243, R244). -/
def Mbc1.highBank (r : Mbc1) : Mbc1Mode → Nat
  | .hardware => r.bank2.toNat * 32 + r.bank1.toNat
  | .simple => if r.mode then r.bank1.toNat else r.bank2.toNat * 32 + r.bank1.toNat

/-- The ROM bank MBC5 maps at 4000-7FFF (R251). -/
def Mbc5.highBank (r : Mbc5) (zeroToOne : Bool) : Nat :=
  let n := r.romb1.toNat * 256 + r.romb0.toNat
  if zeroToOne && decide (n = 0) then 1 else n

/-- The physical ROM offset of an address in 0000-7FFF, its bank reduced modulo the header's count; none at or beyond the
image's length (R233, R240, R243, R244, R251). -/
def Cart.romOffset (c : Cart) (cfg : Config) (a : Nat) : Option Nat :=
  let banked (low high : Nat) : Nat := ((if a < 0x4000 then low else high) % c.romBanks) * 0x4000 + a % 0x4000
  let off :=
    match c.controller with
    | .direct => a
    | .mbc1 r => banked (r.lowBank cfg.mbc1Mode) (r.highBank cfg.mbc1Mode)
    | .mbc5 r => banked 0 (r.highBank cfg.mbc5BankZeroToOne)
  if off < c.romLength then some off else none

/-- The external RAM offset of an address in A000-BFFF in RAM bank `bank`; a RAM below 8 KiB is one bank (R233). -/
def Cart.ramOffset (c : Cart) (bank a : Nat) : Nat :=
  if c.ramSize < 0x2000 then (a - 0xA000) % c.ramSize
  else (bank % (c.ramSize / 0x2000)) * 0x2000 + (a - 0xA000)

/-- What an access to A000-BFFF reaches. -/
inductive ExtAccess where
  | absent
  | disabled
  | offset (off : Nat)
  deriving DecidableEq, Repr

/-- An access to A000-BFFF: the RAM-enable gate first, then the RAM if the cartridge has one (R240, R245, R251, R253;
DEDUCED, log 9: the gate is tested before the RAM's presence). -/
def Cart.extAccess (c : Cart) (a : Nat) : ExtAccess :=
  let gated (enabled : Bool) (off : Nat) : ExtAccess :=
    if enabled then if c.ramSize = 0 then .absent else .offset off else .disabled
  match c.controller with
  | .direct => if c.ramSize = 0 then .absent else .offset ((a - 0xA000) % c.ramSize)
  | .mbc1 r => gated r.ramEnabled (c.ramOffset (if r.mode then r.bank2.toNat else 0) a)
  | .mbc5 r => gated r.ramEnabled (c.ramOffset r.ramb.toNat a)

/-- `(v & 0x0F) = 0x0A` (R241, R250). -/
def ramEnableCode (v : Byte) : Bool := decide (v &&& 0x0F = 0x0A)

/-- A write to an MBC1 register, chosen by the address (R241, R242). -/
def Mbc1.write (r : Mbc1) (a : Nat) (v : Byte) : Mbc1 :=
  if a < 0x2000 then { r with ramEnabled := ramEnableCode v }
  else if a < 0x4000 then
    let n : BitVec 5 := v.extractLsb' 0 5
    { r with bank1 := if n = 0 then 1 else n }
  else if a < 0x6000 then { r with bank2 := v.extractLsb' 0 2 }
  else { r with mode := bitAt v 0 }

/-- A write to an MBC5 register, chosen by the address; 6000-7FFF changes nothing (R250). -/
def Mbc5.write (r : Mbc5) (a : Nat) (v : Byte) : Mbc5 :=
  if a < 0x2000 then { r with ramEnabled := ramEnableCode v }
  else if a < 0x3000 then { r with romb0 := v }
  else if a < 0x4000 then { r with romb1 := v.extractLsb' 0 1 }
  else if a < 0x6000 then { r with ramb := v.extractLsb' 0 4 }
  else r

/-- A write to 0000-7FFF; none where no register exists (R240, R241, R250). -/
def Cart.bankWrite (c : Cart) (a : Nat) (v : Byte) : Option Cart :=
  match c.controller with
  | .direct => none
  | .mbc1 r => some { c with controller := .mbc1 (r.write a v) }
  | .mbc5 r => some { c with controller := .mbc5 (r.write a v) }

end Sys2Proof.Machine
end

