-- ==== Sys2Proof/Machine/Interrupts.lean ====
section
/-! DEFINITION. The interrupt kinds' bits and vectors, requests, and what is pending (60_exceptions R820 to R824). -/

namespace Sys2Proof.Machine

/-- The kind's mask in IE and IF (R820). -/
def IntKind.mask : IntKind → BitVec 5
  | .vblank => 0x01
  | .videoStatus => 0x02
  | .timer => 0x04
  | .controller => 0x10

/-- The kind's fixed service-routine address (R820). -/
def IntKind.vector : IntKind → Word
  | .vblank => 0x0040
  | .videoStatus => 0x0048
  | .timer => 0x0050
  | .controller => 0x0060

/-- `request(k)`: set the kind's IF bit (R821). -/
def State.request (s : State) (k : IntKind) : State := { s with ifr := s.ifr ||| k.mask }

/-- `request(k)` where `b` holds. -/
def State.requestIf (s : State) (b : Bool) (k : IntKind) : State := if b then s.request k else s

/-- `pending = IE & IF & 0x17` (R823): bit 3 takes no part (R827). -/
def State.pending (s : State) : Byte := s.ie &&& s.ifr.zeroExtend 8 &&& 0x17

/-- The kind of the lowest set bit: the highest priority (R824). -/
def lowestKind (p : Byte) : Option IntKind :=
  if bitAt p 0 then some .vblank
  else if bitAt p 1 then some .videoStatus
  else if bitAt p 2 then some .timer
  else if bitAt p 4 then some .controller
  else none

/-- The kind the next step services: IME set and a kind pending (R823, R824). -/
def State.serviceable (s : State) : Option IntKind := if s.ime then lowestKind s.pending else none

end Sys2Proof.Machine
end

