-- ==== Sys2Proof/Machine/Input.lean ====
section
/-! DEFINITION. The input latch P1 and the buttons (60_exceptions R850, R851). -/

namespace Sys2Proof.Machine

/-- The eight standard buttons (R850). -/
inductive Button where
  | right | left | up | down | a | b | select | start
  deriving DecidableEq, Repr

/-- P1 bits 5:0: the select bits as written, and a 0 for each pressed button of a selected group (R850). -/
def Input.low6 (i : Input) : BitVec 6 :=
  let dirs := if bitAt i.select 0 then 0 else i.directions
  let acts := if bitAt i.select 1 then 0 else i.actions
  i.select ++ ~~~(dirs ||| acts)

/-- A write of P1 sets bits 5:4 (R850). -/
def Input.write (i : Input) (v : Byte) : Input := { i with select := v.extractLsb' 4 2 }

/-- The latch with a button pressed or released (R851). -/
def Input.setButton (i : Input) (button : Button) (pressed : Bool) : Input :=
  let put (m g : BitVec 4) : BitVec 4 := if pressed then g ||| m else g &&& ~~~m
  match button with
  | .right => { i with directions := put 1 i.directions }
  | .left => { i with directions := put 2 i.directions }
  | .up => { i with directions := put 4 i.directions }
  | .down => { i with directions := put 8 i.directions }
  | .a => { i with actions := put 1 i.actions }
  | .b => { i with actions := put 2 i.actions }
  | .select => { i with actions := put 4 i.actions }
  | .start => { i with actions := put 8 i.actions }

end Sys2Proof.Machine
end

