-- ==== Sys2Proof/Machine/Timer.lean ====
section
/-! DEFINITION. The timer (60_exceptions R840 to R846). -/

namespace Sys2Proof.Machine

/-- The least edge above `t` of a timer whose next edge is `next` and whose period is `period` (R813). -/
def edgeAfter (next period t : Nat) : Nat :=
  if t < next then next else next + ((t - next) / period + 1) * period

/-- `DIV = ((t - div_base) div 256) mod 256` at the last pump's cycle value t (R840), in the integers: a `RESET_IO` whose DIV
does not read 0 at CYCLES = 0 has its `div_base` above 0 there (R1004's hardware column; DEDUCED, log 25). -/
def State.divider (s : State) : Byte := BitVec.ofInt 8 (((s.lastPump : Int) - s.timer.divBase) / 256)

/-- TAC bit 2 (R842). -/
def Timer.running (tm : Timer) : Bool := bitAt tm.tac 2

/-- `period(TAC) = [1024, 16, 64, 256][TAC & 3]` (R842). -/
def tacPeriod (tac : BitVec 3) : Nat :=
  match (tac.extractLsb' 0 2).toFin with
  | 0 => 1024
  | 1 => 16
  | 2 => 64
  | 3 => 256

/-- One increment: overflow reloads from TMA (R843). -/
def Timer.tick (tm : Timer) : Timer :=
  { tm with
    tima := if tm.tima = 0xFF then tm.tma else tm.tima + 1
    nextTick := tm.nextTick + tacPeriod tm.tac }

/-- One increment of TIMA, an overflow requesting the Timer interrupt (R843). -/
def State.timerTick (s : State) : State :=
  { s with timer := s.timer.tick }.requestIf (decide (s.timer.tima = 0xFF)) .timer

/-- The increments up to cycle `t`, at most `fuel` of them (R843). -/
def State.timerTicks (t : Nat) : Nat → State → State
  | 0, s => s
  | fuel + 1, s =>
    if s.timer.running && decide (s.timer.nextTick ≤ t) then State.timerTicks t fuel s.timerTick else s

/-- The timer's part of a pump to cycle `t`; no period is below 16 (R812, R843). -/
def State.timerPump (s : State) (t : Nat) : State := State.timerTicks t ((t - s.timer.nextTick) / 16 + 1) s

/-- A TAC write at cycle `t`: an enabled counter's period restarts (R844). -/
def Timer.writeTac (tm : Timer) (v : Byte) (t : Nat) : Timer :=
  { tm with
    tac := v.extractLsb' 0 3
    nextTick := if bitAt v 2 then t + tacPeriod (v.extractLsb' 0 3) else tm.nextTick }

end Sys2Proof.Machine
end

