-- ==== Sys2Proof/Machine/Video.lean ====
section
/-! DEFINITION. The video controller's rendering (61_video_audio R919 to R928) and the caches as views (R917, R918). -/

namespace Sys2Proof.Machine

/-- A byte of video RAM: bank, and address in 8000-9FFF (R131, R917). -/
def Video.vramByte (v : Video) (bank addr : Nat) : Byte := v.vram.read (bank * 0x2000 + (addr - 0x8000))

/-- The color index at a column of a tile row: low plane first, column 0 the most significant bit (R920). -/
def Video.tilePixel (v : Video) (bank tile row col : Nat) : Nat :=
  let lo := v.vramByte bank (tile + 2 * row)
  let hi := v.vramByte bank (tile + 2 * row + 1)
  2 * bitNat (bitAt hi (7 - col)) + bitNat (bitAt lo (7 - col))

/-- The decoded tile cache, as a view: the shade index of a pixel of tile 0 to 383 of a bank (R917, R284, log 12). -/
def Video.tileCache (v : Video) (bank tile row col : Nat) : Nat := v.tilePixel bank (0x8000 + 16 * tile) row col

/-- An OAM entry's attribute record (R918). -/
structure Sprite where
  y : Nat
  x : Nat
  tile : Byte
  attr : Byte
  deriving DecidableEq, Repr

/-- The sprite cache, as a view: entry 0 to 39 (R918, R284, log 12). -/
def Video.spriteCache (v : Video) (i : Nat) : Sprite where
  y := (v.oam.read (4 * i)).toNat
  x := (v.oam.read (4 * i + 1)).toNat
  tile := v.oam.read (4 * i + 2)
  attr := v.oam.read (4 * i + 3)

/-- A background or window pixel: its color index and the tile's attributes (R920). -/
structure BgPixel where
  index : Nat
  attr : Byte
  deriving DecidableEq, Repr

/-- The pixel of a tile map at map position (px, py) (R920, R921). -/
def Video.mapPixel (v : Video) (color : Bool) (highMap : Bool) (px py : Nat) : BgPixel :=
  let m := (if highMap then 0x9C00 else 0x9800) + py / 8 * 32 + px / 8
  let n := v.vramByte 0 m
  let attr : Byte := if color then v.vramByte 1 m else 0
  let tile := if bitAt v.lcdc 4 then 0x8000 + 16 * n.toNat else (0x9000 + 16 * n.toInt).toNat
  let row := if bitAt attr 6 then 7 - py % 8 else py % 8
  let col := if bitAt attr 5 then 7 - px % 8 else px % 8
  ⟨v.tilePixel (bitNat (bitAt attr 3)) tile row col, attr⟩

/-- The window covers screen x on line ly (R921). -/
def Video.windowAt (v : Video) (x ly : Nat) : Bool :=
  bitAt v.lcdc 5 && decide (v.wy.toNat ≤ ly) && decide (v.wx.toNat ≤ x + 7)

/-- The background or window pixel at screen x on line ly; monochrome with LCDC bit 0 clear is blank (R920, R921). -/
def Video.bgPixel (v : Video) (color : Bool) (x ly : Nat) : BgPixel :=
  if !color && !bitAt v.lcdc 0 then ⟨0, 0⟩
  else if v.windowAt x ly then v.mapPixel color (bitAt v.lcdc 6) (x + 7 - v.wx.toNat) (ly - v.wy.toNat)
  else v.mapPixel color (bitAt v.lcdc 3) ((x + v.scx.toNat) % 256) ((ly + v.scy.toNat) % 256)

/-- The sprite height (R922). -/
def Video.spriteHeight (v : Video) : Nat := if bitAt v.lcdc 2 then 16 else 8

/-- The sprites taking part on line ly, lowest index first (R922). -/
def Video.lineSprites (v : Video) (limit : Option Nat) (ly : Nat) : List Sprite :=
  if bitAt v.lcdc 1 then
    let on := ((List.range 40).map v.spriteCache).filter fun s =>
      decide (s.y ≤ ly + 16) && decide (ly + 16 < s.y + v.spriteHeight)
    match limit with
    | none => on
    | some k => on.take k
  else []

/-- The color index of a sprite at screen x on line ly, 0 where it does not cover x (R923). -/
def Video.spriteIndex (v : Video) (color : Bool) (s : Sprite) (x ly : Nat) : Nat :=
  if decide (s.x ≤ x + 8) && decide (x + 8 < s.x + 8) then
    let h := v.spriteHeight
    let r0 := ly + 16 - s.y
    let r := if bitAt s.attr 6 then h - 1 - r0 else r0
    let c0 := x + 8 - s.x
    let c := if bitAt s.attr 5 then 7 - c0 else c0
    let tile := if h = 8 then s.tile.toNat else (s.tile &&& 0xFE).toNat + r / 8
    v.tilePixel (if color then bitNat (bitAt s.attr 3) else 0) (0x8000 + 16 * tile) (r % 8) c
  else 0

/-- The sprite pixel at screen x: the first sprite of the list whose pixel is not transparent (R923). -/
def Video.spritePixel (v : Video) (color : Bool) (x ly : Nat) : List Sprite → Option (Nat × Byte)
  | [] => none
  | s :: t =>
    let i := v.spriteIndex color s x ly
    if i = 0 then v.spritePixel color x ly t else some (i, s.attr)

/-- The sprite pixel wins over the background or window pixel: monochrome R924, color R925. -/
def Video.spriteWins (v : Video) (color : Bool) (bg : BgPixel) (attr : Byte) : Bool :=
  if color then !bitAt v.lcdc 0 || decide (bg.index = 0) || (!bitAt bg.attr 7 && !bitAt attr 7)
  else !bitAt attr 7 || decide (bg.index = 0)

/-- `(palette >> 2i) & 3` (R906, R926). -/
def shadeOf (palette : Byte) (i : Nat) : Nat := palette.toNat / 4 ^ i % 4

/-- `DMG_SHADES` (R926). -/
def dmgRgb (cfg : Config) : Nat → Rgb
  | 0 => cfg.dmgShade0
  | 1 => cfg.dmgShade1
  | 2 => cfg.dmgShade2
  | _ => cfg.dmgShade3

/-- `CGB_RGB` of a color word: its default is `v * 255 div 31` for each 5-bit component (R927). -/
def cgbRgb (cfg : Config) (w : Nat) : Rgb :=
  let part (v : Nat) : Byte := BitVec.ofNat 8 (v % 32 * 255 / 31)
  lookupD w ⟨part w, part (w / 32), part (w / 1024)⟩ cfg.cgbRgb

/-- The color word of palette p, color i, in a palette memory (R909, R927). -/
def paletteWord (m : Memory) (p i : Nat) : Nat :=
  (m.read (8 * p + 2 * i)).toNat + 256 * (m.read (8 * p + 2 * i + 1)).toNat

/-- A background or window pixel's color (R926, R927). -/
def Video.bgRgb (v : Video) (cfg : Config) (color : Bool) (p : BgPixel) : Rgb :=
  if color then cgbRgb cfg (paletteWord v.bgPalette (p.attr.extractLsb' 0 3).toNat p.index)
  else dmgRgb cfg (shadeOf v.bgp p.index)

/-- A sprite pixel's color (R926, R927). -/
def Video.objRgb (v : Video) (cfg : Config) (color : Bool) (i : Nat) (attr : Byte) : Rgb :=
  if color then cgbRgb cfg (paletteWord v.objPalette (attr.extractLsb' 0 3).toNat i)
  else dmgRgb cfg (shadeOf (if bitAt attr 4 then v.obp1 else v.obp0) i)

/-- The pixel at (x, ly): background, then window, then sprites (R919 to R927). -/
def Video.pixel (v : Video) (cfg : Config) (color : Bool) (sprites : List Sprite) (x ly : Nat) : Rgb :=
  let bg := v.bgPixel color x ly
  match v.spritePixel color x ly sprites with
  | none => v.bgRgb cfg color bg
  | some (i, attr) =>
    if v.spriteWins color bg attr then v.objRgb cfg color i attr else v.bgRgb cfg color bg

/-- The lightest shade (R916). -/
def lightestRgb (cfg : Config) (color : Bool) : Rgb := if color then cgbRgb cfg 0x7FFF else dmgRgb cfg 0

/-- The 160 pixels of line ly; a powered-off controller fills the line with the lightest shade (R916, R919). -/
def Video.line (v : Video) (cfg : Config) (color : Bool) (ly : Nat) : List Rgb :=
  if bitAt v.lcdc 7 then
    (List.range 160).map fun x => v.pixel cfg color (v.lineSprites cfg.spriteLimit ly) x ly
  else List.replicate 160 (lightestRgb cfg color)

/-- The lines with line `ly` set, in rising order. -/
def putLine (ly : Nat) (p : List Rgb) : List (Nat × List Rgb) → List (Nat × List Rgb)
  | [] => [(ly, p)]
  | (k, q) :: t =>
    if ly < k then (ly, p) :: (k, q) :: t
    else if ly = k then (ly, p) :: t
    else (k, q) :: putLine ly p t

/-- Line ly rendered into the back framebuffer (R919). -/
def Video.renderLine (v : Video) (cfg : Config) (color : Bool) (ly : Nat) : Video :=
  { v with back := { v.back with lines := putLine ly (v.line cfg color ly) v.back.lines } }

/-- The two framebuffers exchange roles (R912, R928). -/
def Video.swapBuffers (v : Video) : Video := { v with front := v.back, back := v.front }

/-- A pixel of a framebuffer; of a line never rendered, a draw (R928). -/
def Framebuffer.pixel (fb : Framebuffer) (x ly : Nat) : Rgb :=
  match fb.lines.lookup ly with
  | some p => p.getD x (Config.initPixel fb.buffer ly x)
  | none => Config.initPixel fb.buffer ly x

end Sys2Proof.Machine
end

