-- ==== Sys2Proof/Machine/VideoTiming.lean ====
section
/-! DEFINITION. The video controller's timing, events and interrupts (61_video_audio R910 to R916). -/

namespace Sys2Proof.Machine

/-- With `LCD_OFF_TIMING = stops`, LCDC bit 7 = 0 freezes the controller at LY = 0, mode 0, without events (R916). -/
def State.lcdFrozen (s : State) : Bool := decide (s.cfg.lcdOffTiming = .stops) && !bitAt s.video.lcdc 7

/-- `u = t - video_base` (R910), in the integers: a `RESET_IO` that starts within a frame has its `video_base` above 0 at
CYCLES = 0 (R1004's hardware column; DEDUCED, log 25). -/
def State.videoClock (s : State) (t : Nat) : Int := (t : Int) - s.video.videoBase

/-- `dot(t)` (R910). -/
def State.dotAt (s : State) (t : Nat) : Nat := (s.videoClock t % 456).toNat

/-- `LY(t)` (R910, R916). -/
def State.lineAt (s : State) (t : Nat) : Nat :=
  if s.lcdFrozen then 0 else (s.videoClock t / 456 % 154).toNat

/-- `mode(t)` (R910, R916). -/
def State.modeAt (s : State) (t : Nat) : Nat :=
  if s.lcdFrozen then 0
  else if 144 ≤ s.lineAt t then 1
  else if s.dotAt t < 80 then 2
  else if s.dotAt t < 252 then 3
  else 0

/-- The cycle value of the first video event after `t`, none while frozen: a line start, and on lines 0 to 143 the drawing
start (dot 80) and the horizontal-blank start (dot 252) (R910, R916). -/
def State.nextVideoEvent (s : State) (t : Nat) : Option Nat :=
  if s.lcdFrozen then none
  else
    let dot := s.dotAt t
    if 144 ≤ s.lineAt t then some (t + (456 - dot))
    else if dot < 80 then some (t + (80 - dot))
    else if dot < 252 then some (t + (252 - dot))
    else some (t + (456 - dot))

/-- One evaluation of the line compare at cycle `t`: a rising edge of LY = LYC requests if STAT bit 6 is set (R915). -/
def State.lineCompare (s : State) (t : Nat) : State :=
  let m := decide (s.lineAt t = s.video.lyc.toNat)
  { s with video := { s.video with prevMatch := m } }.requestIf
    (m && !s.video.prevMatch && bitAt s.video.stat 3) .videoStatus

/-- The horizontal-blank start of the line at cycle `t`: the line is rendered, STAT bit 3 requests (R911). -/
def State.hblankStart (s : State) (t : Nat) : State :=
  { s with video := s.video.renderLine s.cfg s.colorMode (s.lineAt t) }.requestIf (bitAt s.video.stat 0) .videoStatus

/-- The vertical-blank start: buffers swapped, VBlank requested, STAT bit 4 requests (R912). -/
def State.vblankStart (s : State) : State :=
  ({ s with video := s.video.swapBuffers }.request .vblank).requestIf (bitAt s.video.stat 1) .videoStatus

/-- A line start at cycle `t`: line 144 starts the vertical blank, lines 0 to 143 the search (STAT bit 5 requests), and the
line compare is evaluated (R912, R913, R915). -/
def State.lineStart (s : State) (t : Nat) : State :=
  let ly := s.lineAt t
  let s1 :=
    if ly = 144 then s.vblankStart
    else if ly < 144 then s.requestIf (bitAt s.video.stat 2) .videoStatus
    else s
  s1.lineCompare t

/-- The video event at cycle `t`; the drawing start changes the reported mode only (R910, R913). -/
def State.videoEvent (s : State) (t : Nat) : State :=
  if s.dotAt t = 0 then s.lineStart t
  else if s.dotAt t = 252 then s.hblankStart t
  else s

/-- The video events in `(cur, t]`, in time order, at most `fuel` of them (R910). -/
def State.videoEvents (t : Nat) : Nat → Nat → State → State
  | 0, _, s => s
  | fuel + 1, cur, s =>
    match s.nextVideoEvent cur with
    | none => s
    | some n => if n ≤ t then State.videoEvents t fuel n (s.videoEvent n) else s

/-- The video part of a pump to cycle `t`: every event in `(last_t, t]`, then one line-compare evaluation (R812, R910,
R915; DEDUCED, log 11: that last evaluation happens while the controller is frozen too). -/
def State.videoPump (s : State) (t : Nat) : State :=
  (State.videoEvents t (t - s.lastPump) s.lastPump s).lineCompare t

end Sys2Proof.Machine
end

