-- ==== Sys2Proof/Machine/Bus.lean ====
section
/-! DEFINITION. The bus: the address map (20_memory R200 to R203), one access (R210 to R220), the registers' reads and
writes, and the two DMA copies (R260, R261). -/

namespace Sys2Proof.Machine

/-- How a sequence of accesses ends: it goes on from a state, or an error stopped it, what was done before it staying done
(00_scope R20, 60_exceptions R806). -/
inductive Run where
  | ok (s : State)
  | err (e : StepError) (s : State)
  deriving DecidableEq, Repr

/-- The state a run leaves, whether it went on or stopped. -/
def Run.state : Run → State
  | .ok s => s
  | .err _ s => s

/-- The owners of the address map (R201). -/
inductive Region where
  | rom | vram | extRam | wramLow | wramHigh | echo | oam | unusable | io | hram | ie
  deriving DecidableEq, Repr

/-- The address map (R201). -/
def regionOf (a : Word) : Region :=
  let n := a.toNat
  if n < 0x8000 then .rom
  else if n < 0xA000 then .vram
  else if n < 0xC000 then .extRam
  else if n < 0xD000 then .wramLow
  else if n < 0xE000 then .wramHigh
  else if n < 0xFE00 then .echo
  else if n < 0xFEA0 then .oam
  else if n < 0xFF00 then .unusable
  else if n < 0xFF80 then .io
  else if n < 0xFFFF then .hram
  else .ie

/-- The I/O registers (R202). -/
inductive IoReg where
  | p1 | div | tima | tma | tac | ifr
  | audio (r : AudioReg)
  | wave (k : Nat)
  | lcdc | stat | scy | scx | ly | lyc | dma | bgp | obp0 | obp1 | wy | wx
  | key1 | vbk | hdma1 | hdma2 | hdma3 | hdma4 | hdma5 | bcps | bcpd | ocps | ocpd | svbk
  deriving DecidableEq, Repr

/-- The registers of both modes, by the low byte of their address (R202). -/
def ioMap : List (Nat × IoReg) :=
  [(0x00, .p1), (0x04, .div), (0x05, .tima), (0x06, .tma), (0x07, .tac), (0x0F, .ifr),
   (0x10, .audio .nr10), (0x11, .audio .nr11), (0x12, .audio .nr12), (0x13, .audio .nr13), (0x14, .audio .nr14),
   (0x16, .audio .nr21), (0x17, .audio .nr22), (0x18, .audio .nr23), (0x19, .audio .nr24),
   (0x1A, .audio .nr30), (0x1B, .audio .nr31), (0x1C, .audio .nr32), (0x1D, .audio .nr33), (0x1E, .audio .nr34),
   (0x20, .audio .nr41), (0x21, .audio .nr42), (0x22, .audio .nr43), (0x23, .audio .nr44),
   (0x24, .audio .nr50), (0x25, .audio .nr51), (0x26, .audio .nr52),
   (0x40, .lcdc), (0x41, .stat), (0x42, .scy), (0x43, .scx), (0x44, .ly), (0x45, .lyc), (0x46, .dma),
   (0x47, .bgp), (0x48, .obp0), (0x49, .obp1), (0x4A, .wy), (0x4B, .wx)]

/-- The registers of color mode only (R202, R151). -/
def colorIoMap : List (Nat × IoReg) :=
  [(0x4D, .key1), (0x4F, .vbk), (0x51, .hdma1), (0x52, .hdma2), (0x53, .hdma3), (0x54, .hdma4), (0x55, .hdma5),
   (0x68, .bcps), (0x69, .bcpd), (0x6A, .ocps), (0x6B, .ocpd), (0x70, .svbk)]

/-- The register at FF00 + n, if any (R202): the tables, and wave RAM at FF30-FF3F. -/
def ioRegAt (color : Bool) (n : Nat) : Option IoReg :=
  if 0x30 ≤ n ∧ n < 0x40 then some (.wave (n - 0x30))
  else
    match ioMap.lookup n with
    | some r => some r
    | none => if color then colorIoMap.lookup n else none

/-- The plain memories an address can lead to. -/
inductive MemId where
  | wram | hram | vram | oam | extRam
  deriving DecidableEq, Repr

/-- The memory of a name. -/
def State.mem (s : State) : MemId → Memory
  | .wram => s.wram
  | .hram => s.hram
  | .vram => s.video.vram
  | .oam => s.video.oam
  | .extRam => s.cart.ram

/-- The state with the memory of a name replaced. -/
def State.setMem (s : State) (i : MemId) (m : Memory) : State :=
  match i with
  | .wram => { s with wram := m }
  | .hram => { s with hram := m }
  | .vram => { s with video := { s.video with vram := m } }
  | .oam => { s with video := { s.video with oam := m } }
  | .extRam => { s with cart := { s.cart with ram := m } }

/-- What an access reaches once it is routed (R210). -/
inductive Target where
  /-- No owner: R211. -/
  | unmapped
  /-- External RAM while disabled: R253. -/
  | gated
  /-- Video memory while `VRAM_LOCK` blocks it: R929. -/
  | blocked
  /-- A byte of a plain memory. -/
  | mem (i : MemId) (off : Nat)
  /-- The ROM windows: R240 to R252. -/
  | rom
  /-- An I/O register. -/
  | io (r : IoReg)
  /-- IE: 10_state R120. -/
  | ie
  deriving DecidableEq, Repr

/-- With `ECHO_MODE = mirror` an access to E000-FDFF is the same access 2000 lower (R216). -/
def State.effective (s : State) (a : Word) : Word :=
  if regionOf a = .echo ∧ s.cfg.echoMode = .mirror then a - 0x2000 else a

/-- `wram_bank()` (R217). -/
def State.wramBank (s : State) : Nat := if s.colorMode then (if s.svbk = 0 then 1 else s.svbk.toNat) else 1

/-- The video-RAM bank of CPU accesses (R219, R908). -/
def State.vramBank (s : State) : Nat := if s.colorMode then s.video.vbk.toNat else 0

/-- `VRAM_LOCK` blocks a CPU access of video RAM: mode 3 (R929). -/
def State.vramLocked (s : State) : Bool := s.cfg.vramLock && decide (s.modeAt s.lastPump = 3)

/-- `VRAM_LOCK` blocks a CPU access of OAM: modes 2 and 3 (R929). -/
def State.oamLocked (s : State) : Bool :=
  s.cfg.vramLock && (decide (s.modeAt s.lastPump = 2) || decide (s.modeAt s.lastPump = 3))

/-- Where an access to A000-BFFF goes (R240, R245, R253). -/
def extTarget (c : Cart) (n : Nat) : Target :=
  match c.extAccess n with
  | .absent => .unmapped
  | .disabled => .gated
  | .offset off => .mem .extRam off

/-- Where an access to FF00 + n goes (R202, R211). -/
def ioTarget (color : Bool) (n : Nat) : Target :=
  match ioRegAt color n with
  | some r => .io r
  | none => .unmapped

/-- `route(a)` (R201 to R203, R216 to R220). -/
def State.target (s : State) (a : Word) : Target :=
  let n := (s.effective a).toNat
  match regionOf (s.effective a) with
  | .rom => .rom
  | .vram => if s.vramLocked then .blocked else .mem .vram (s.vramBank * 0x2000 + (n - 0x8000))
  | .extRam => extTarget s.cart n
  | .wramLow => .mem .wram (n - 0xC000)
  | .wramHigh => .mem .wram (s.wramBank * 0x1000 + (n - 0xD000))
  | .echo => .unmapped
  | .oam => if s.oamLocked then .blocked else .mem .oam (n - 0xFE00)
  | .unusable => .unmapped
  | .io => ioTarget s.colorMode (n - 0xFF00)
  | .hram => .mem .hram (n - 0xFF80)
  | .ie => .ie

/-- The watchpoint an access to `a` meets, if any (R215); a mirrored access is an access to both addresses (DEDUCED, log 8). -/
def State.watchHit (s : State) (a : Word) : Option Word :=
  if s.watchpoints.contains a then some a
  else if s.watchpoints.contains (s.effective a) then some (s.effective a)
  else none

/-- An access to the unmapped address `a` raises no error (R211, R213, R214). -/
def State.tolerates (s : State) (a : Word) : Bool := !s.pedantic || s.cfg.pedanticAllow.contains a

/-- A register's read (R121 to R125, R212, R840 to R850, R901 to R909, R964); `d` is the draw of its unspecified bits. -/
def State.ioRead (s : State) (d : Byte) : IoReg → Byte
  | .p1 => blend 0xC0 d (s.input.low6.zeroExtend 8)
  | .div => s.divider
  | .tima => s.timer.tima
  | .tma => s.timer.tma
  | .tac => blend 0xF8 d (s.timer.tac.zeroExtend 8)
  | .ifr => blend 0xE0 d (s.ifr.zeroExtend 8)
  | .audio r =>
    match r with
    | .nr52 => blend 0x70 d s.audio.nr52
    | _ => d
  | .wave k => s.audio.wave.read k
  | .lcdc => s.video.lcdc
  | .stat =>
    blend 0x80 d ((s.video.stat.zeroExtend 8 <<< 3) ||| bitByte 2 s.video.prevMatch ||| BitVec.ofNat 8 (s.modeAt s.lastPump))
  | .scy => s.video.scy
  | .scx => s.video.scx
  | .ly => BitVec.ofNat 8 (s.lineAt s.lastPump)
  | .lyc => s.video.lyc
  | .dma => s.dma
  | .bgp => s.video.bgp
  | .obp0 => s.video.obp0
  | .obp1 => s.video.obp1
  | .wy => s.video.wy
  | .wx => s.video.wx
  | .key1 => blend 0x7E d (bitByte 7 s.doubleSpeed ||| bitByte 0 s.speedPrep)
  | .vbk => blend 0xFE d (s.video.vbk.zeroExtend 8)
  | .hdma1 => d
  | .hdma2 => d
  | .hdma3 => d
  | .hdma4 => d
  | .hdma5 => 0xFF
  | .bcps => blend 0x40 d (bitByte 7 s.video.bcps.autoIncrement ||| s.video.bcps.index.zeroExtend 8)
  | .bcpd => s.video.bgPalette.read s.video.bcps.index.toNat
  | .ocps => blend 0x40 d (bitByte 7 s.video.ocps.autoIncrement ||| s.video.ocps.index.zeroExtend 8)
  | .ocpd => s.video.objPalette.read s.video.ocps.index.toNat
  | .svbk => blend 0xF8 d (s.svbk.zeroExtend 8)

/-- What a ROM window reads, none beyond the image (R233). -/
def State.romByte (s : State) (a : Word) : Option Byte := (s.cart.romOffset s.cfg a.toNat).map s.cart.rom.read

/-- The answer of an unmapped read (R211). -/
def State.unmappedRead (s : State) (a : Word) : Except StepError Byte :=
  if s.tolerates a then .ok 0 else .error (.busError a)

/-- `MemRead(a, 1)` (R210): a read changes no state (R273). -/
def State.memRead (s : State) (a : Word) : Except StepError Byte :=
  match s.watchHit a with
  | some w => .error (.busError w)
  | none =>
    match s.target a with
    | .unmapped => s.unmappedRead a
    | .gated => .error (.protectionFault a)
    | .blocked => .ok 0xFF
    | .mem i off => .ok ((s.mem i).read off)
    | .rom =>
      match s.romByte a with
      | some v => .ok v
      | none => s.unmappedRead a
    | .io r => .ok (s.ioRead (Config.freeByte s.draw a.toNat) r)
    | .ie => .ok s.ie

/-- The write of a DMA copy to OAM or video RAM: watched (R215), never blocked (R929). -/
def State.dmaStore (s : State) (a : Word) (v : Byte) : Run :=
  match s.watchHit a with
  | some w => .err (.busError w) s
  | none =>
    let i : MemId := if regionOf a = .oam then .oam else .vram
    let off := if regionOf a = .oam then a.toNat - 0xFE00 else s.vramBank * 0x2000 + (a.toNat - 0x8000)
    .ok (s.setMem i ((s.mem i).write off v))

/-- A copy of `n` bytes from index `i` on, each read through the bus and then stored; an error stops it there (R260, R261). -/
def dmaCopy (src dst : Nat → Word) : Nat → Nat → State → Run
  | 0, _, s => .ok s
  | n + 1, i, s =>
    match s.memRead (src i) with
    | .error e => .err e s
    | .ok b =>
      match s.dmaStore (dst i) b with
      | .err e s1 => .err e s1
      | .ok s1 => dmaCopy src dst n (i + 1) s1

/-- OAM DMA from page `v` (R260). -/
def State.oamDma (s : State) (v : Byte) : Run :=
  dmaCopy (fun i => BitVec.ofNat 16 (v.toNat * 256 + i)) (fun i => BitVec.ofNat 16 (0xFE00 + i)) 160 0 s

/-- The source address of the fast VRAM DMA (R261). -/
def State.hdmaSource (s : State) : Word := concat16 s.hdma1 s.hdma2 &&& 0xFFF0

/-- The destination offset of the fast VRAM DMA (R261). -/
def State.hdmaDest (s : State) : Word := concat16 s.hdma3 s.hdma4 &&& 0x1FF0

/-- Fast VRAM DMA with length code `v[6:0]` (R261). -/
def State.vramDma (s : State) (v : Byte) : Run :=
  let src := s.hdmaSource
  let dst := s.hdmaDest
  dmaCopy (fun i => src + BitVec.ofNat 16 i) (fun i => 0x8000 ||| ((dst + BitVec.ofNat 16 i) &&& 0x1FFF))
    (((v &&& 0x7F).toNat + 1) * 16) 0 s

/-- A write of LCDC: with `LCD_OFF_TIMING = stops`, setting bit 7 restarts the timing at this cycle value (R916). -/
def State.writeLcdc (s : State) (v : Byte) : State :=
  let restart := s.lcdFrozen && bitAt v 7
  { s with video := { s.video with lcdc := v, videoBase := if restart then s.cycles else s.video.videoBase } }

/-- A write of BCPS or OCPS (R909). -/
def paletteIndexOf (v : Byte) : PaletteIndex := ⟨bitAt v 7, v.extractLsb' 0 6⟩

/-- The index after a palette data write (R909). -/
def PaletteIndex.next (p : PaletteIndex) : PaletteIndex := if p.autoIncrement then { p with index := p.index + 1 } else p

/-- A register's write (R121 to R125, R212, R260, R261, R274, R841 to R850, R901 to R909, R951, R952). -/
def State.ioWrite (s : State) (r : IoReg) (v : Byte) : Run :=
  match r with
  | .p1 => .ok { s with input := s.input.write v }
  | .div => .ok { s with timer := { s.timer with divBase := s.cycles } }
  | .tima => .ok { s with timer := { s.timer with tima := v } }
  | .tma => .ok { s with timer := { s.timer with tma := v } }
  | .tac => .ok { s with timer := s.timer.writeTac v s.cycles }
  | .ifr => .ok { s with ifr := v.extractLsb' 0 5 }
  | .audio a => .ok { s with audio := s.audio.write a v s.cycles }
  | .wave k => .ok { s with audio := { s.audio with wave := s.audio.wave.write k v } }
  | .lcdc => .ok (s.writeLcdc v)
  | .stat => .ok { s with video := { s.video with stat := v.extractLsb' 3 4 } }
  | .scy => .ok { s with video := { s.video with scy := v } }
  | .scx => .ok { s with video := { s.video with scx := v } }
  | .ly => .ok s
  | .lyc => .ok { s with video := { s.video with lyc := v } }
  | .dma => { s with dma := v }.oamDma v
  | .bgp => .ok { s with video := { s.video with bgp := v } }
  | .obp0 => .ok { s with video := { s.video with obp0 := v } }
  | .obp1 => .ok { s with video := { s.video with obp1 := v } }
  | .wy => .ok { s with video := { s.video with wy := v } }
  | .wx => .ok { s with video := { s.video with wx := v } }
  | .key1 => .ok { s with speedPrep := bitAt v 0 }
  | .vbk => .ok { s with video := { s.video with vbk := v.extractLsb' 0 1 } }
  | .hdma1 => .ok { s with hdma1 := v }
  | .hdma2 => .ok { s with hdma2 := v }
  | .hdma3 => .ok { s with hdma3 := v }
  | .hdma4 => .ok { s with hdma4 := v }
  | .hdma5 => { s with hdma5 := v }.vramDma v
  | .bcps => .ok { s with video := { s.video with bcps := paletteIndexOf v } }
  | .bcpd =>
    .ok { s with video := { s.video with
      bgPalette := s.video.bgPalette.write s.video.bcps.index.toNat v, bcps := s.video.bcps.next } }
  | .ocps => .ok { s with video := { s.video with ocps := paletteIndexOf v } }
  | .ocpd =>
    .ok { s with video := { s.video with
      objPalette := s.video.objPalette.write s.video.ocps.index.toNat v, ocps := s.video.ocps.next } }
  | .svbk => .ok { s with svbk := v.extractLsb' 0 3 }

/-- The outcome of an unmapped write (R211). -/
def State.unmappedWrite (s : State) (a : Word) : Run := if s.tolerates a then .ok s else .err (.busError a) s

/-- `MemWrite(a, 1, v)` (R210). A register write makes the unspecified register bits new draws (R273, log 5). -/
def State.memWrite (s : State) (a : Word) (v : Byte) : Run :=
  match s.watchHit a with
  | some w => .err (.busError w) s
  | none =>
    match s.target a with
    | .unmapped => s.unmappedWrite a
    | .gated => .err (.protectionFault a) s
    | .blocked => .ok s
    | .mem i off => .ok (s.setMem i ((s.mem i).write off v))
    | .rom =>
      match s.cart.bankWrite a.toNat v with
      | some c => .ok { s with cart := c }
      | none => s.unmappedWrite a
    | .io r => { s with draw := s.draw + 1 }.ioWrite r v
    | .ie => .ok { s with ie := v }

end Sys2Proof.Machine
end

