-- ==== Sys2Proof/Machine/Ops.lean ====
section
/-! DEFINITION. The named operations the instructions share: bus accesses in sequence, raising an error, the stack
(00_scope R17 to R20), fetching (R18), entering an interrupt (60_exceptions R825) and returning from one (45_control R710). -/

namespace Sys2Proof.Machine

/-- What an instruction answers. -/
abbrev Result := Host.Outcome State Fault Refusal

/-- TAKING AN ERROR (60_exceptions R806): what was done stays done, FAULT records the error, DEBUG_HALT is set; no cost is
added and nothing is pumped. DEDUCED (log 2, safe): the faulted state is a next state, and it has no step of its own. -/
def State.raise (s : State) (e : StepError) : State :=
  { s with fault := some e, debugHalt := true, stepResult := .error e }

/-- The answer of an instruction whose accesses ran as `r`. -/
def Run.result : Run → Result
  | .ok s => .next s
  | .err e s => .next (s.raise e)

/-- A bus read, then the rest (R17, R20). -/
def State.readThen (s : State) (a : Word) (k : Byte → Run) : Run :=
  match s.memRead a with
  | .ok v => k v
  | .error e => .err e s

/-- A run, then the rest from the state it leaves (R20). -/
def Run.andThen (r : Run) (k : State → Run) : Run :=
  match r with
  | .ok s => k s
  | .err e s => .err e s

/-- A bus write, then the rest (R17, R20). -/
def State.writeThen (s : State) (a : Word) (v : Byte) (k : State → Run) : Run := (s.memWrite a v).andThen k

/-- `MemWrite16(a, v)`: the low byte at `a`, then the high byte at `a + 1` (R17). -/
def State.memWrite16 (s : State) (a : Word) (v : Word) : Run :=
  s.writeThen a (loByte v) fun s1 => s1.memWrite (a + 1) (hiByte v)

/-- `push16(v)`: SP decremented before each write, the high byte first (R19). -/
def State.push16 (s : State) (v : Word) : Run :=
  let s1 := s.setSp (s.regs.sp - 1)
  s1.writeThen s1.regs.sp (hiByte v) fun s2 =>
    let s3 := s2.setSp (s2.regs.sp - 1)
    s3.memWrite s3.regs.sp (loByte v)

/-- `pop16()`: the low byte first, SP incremented after each read (R19). -/
def State.pop16 (s : State) (k : Word → State → Run) : Run :=
  s.readThen s.regs.sp fun lo =>
    let s1 := s.setSp (s.regs.sp + 1)
    s1.readThen s1.regs.sp fun hi =>
      k (concat16 hi lo) (s1.setSp (s1.regs.sp + 1))

/-- What fetching an instruction answers: its bytes and the state with PC past them, or the error of a fetch (R18). -/
inductive Fetched where
  | ok (bytes : List Byte) (s : State)
  | err (e : StepError) (s : State)
  deriving DecidableEq, Repr

/-- `n` bytes fetched one at a time, PC advanced by one after each (R18, 10_state R107). -/
def State.fetchBytes : Nat → State → Fetched
  | 0, s => .ok [] s
  | n + 1, s =>
    match s.memRead s.regs.pc with
    | .error e => .err e s
    | .ok b =>
      match State.fetchBytes n (s.setPc (s.regs.pc + 1)) with
      | .ok t s1 => .ok (b :: t) s1
      | .err e s1 => .err e s1

/-- The instruction at PC: the opcode, then as many bytes as its length needs (30_encoding R302). -/
def State.fetchInstr (s : State) : Fetched :=
  match s.memRead s.regs.pc with
  | .error e => .err e s
  | .ok o =>
    match State.fetchBytes (instrLength o - 1) (s.setPc (s.regs.pc + 1)) with
    | .ok t s1 => .ok (o :: t) s1
    | .err e s1 => .err e s1

/-- ENTERING AN INTERRUPT of kind `k` (60_exceptions R825): its IF bit cleared, PC pushed, the vector taken, IME and
EI_PENDING cleared; an error of the push leaves IME and PC as they were (R829). -/
def State.dispatch (s : State) (k : IntKind) : Run :=
  ({ s with ifr := s.ifr &&& ~~~k.mask }.push16 s.regs.pc).andThen fun s1 =>
    .ok { s1.setPc k.vector with ime := false, eiPending := false }

/-- RETURNING FROM AN INTERRUPT: PC popped, IME set at once, EI_PENDING cleared (45_control R710). -/
def State.returnInterrupt (s : State) : Run :=
  s.pop16 fun w s1 => .ok { s1.setPc w with ime := true, eiPending := false }

end Sys2Proof.Machine
end

