-- ==== Sys2Proof/Machine/Operands.lean ====
section
/-! DEFINITION. Every operand form of the instruction set (30_encoding R310 to R316, R320): the addresses the memory forms
use, the register, memory and immediate forms of a source, and the read-modify-write form at (HL). PC is past the whole
instruction when a meaning runs (10_state R107). -/

namespace Sys2Proof.Machine

/-- `0xFF00 + n`: the high-page address of a8 and of register C (R320). -/
def highPage (n : Byte) : Word := 0xFF00 + zext16 n

/-- The answer of an instruction that makes no access. -/
def done (s : State) : Result := .next s

/-- A source byte from memory, then a register-only effect. -/
def State.withByteAt (s : State) (a : Word) (k : Byte → State) : Result := (s.readThen a fun v => .ok (k v)).result

/-- A byte stored, then a register-only effect. -/
def State.storeByte (s : State) (a : Word) (v : Byte) (k : State → State) : Result :=
  (s.writeThen a v fun s1 => .ok (k s1)).result

/-- The read-modify-write form at (HL): a read, a write at the same address, then the flags (42_alu8 R541, 44 R661). -/
def State.modifyAtHL (s : State) (f : Byte → Byte × Flags) : Result :=
  (s.readThen s.hl fun v => s.writeThen s.hl (f v).1 fun s1 => .ok (s1.setFlags (f v).2)).result

/-- The read-modify-write form at (HL) of RES and SET, which write no flag (44 R683, R685). -/
def State.replaceAtHL (s : State) (f : Byte → Byte) : Result :=
  (s.readThen s.hl fun v => s.memWrite s.hl (f v)).result

/-- `zext_16(t * 8)`, an RST target (R315). -/
def rstTarget (t : Nat) : Word := BitVec.ofNat 16 (t * 8)

end Sys2Proof.Machine
end

