-- ==== Sys2Proof/Machine/Alu16.lean ====
section
/-! DEFINITION. 16-bit arithmetic (43_alu16 R600 to R605). -/

namespace Sys2Proof.Machine

/-- ADD HL,rr (R600). -/
def addToHl (p : Pair) (s : State) : Result :=
  let r := addHl16 s.hl (s.pair p) s.flags
  done ((s.setHl r.1).setFlags r.2)

/-- INC rr: no flag (R601, R605). -/
def incrementPair (p : Pair) (s : State) : Result := done (s.setPair p (s.pair p + 1))

/-- DEC rr: no flag (R602, R605). -/
def decrementPair (p : Pair) (s : State) : Result := done (s.setPair p (s.pair p - 1))

/-- ADD SP,e8 (R603). -/
def addToSp (e : Byte) (s : State) : Result :=
  let r := addSp16 s.regs.sp e
  done ((s.setSp r.1).setFlags r.2)

/-- LD HL,SP+e8 (R604). -/
def loadHlSp (e : Byte) (s : State) : Result :=
  let r := addSp16 s.regs.sp e
  done ((s.setHl r.1).setFlags r.2)

/-- INC BC: 03 (R601). -/
def execIncBC (s : State) : Result := incrementPair .bc s

/-- ADD HL,BC: 09 (R600). -/
def execAddHLBC (s : State) : Result := addToHl .bc s

/-- DEC BC: 0B (R602). -/
def execDecBC (s : State) : Result := decrementPair .bc s

/-- INC DE: 13 (R601). -/
def execIncDE (s : State) : Result := incrementPair .de s

/-- ADD HL,DE: 19 (R600). -/
def execAddHLDE (s : State) : Result := addToHl .de s

/-- DEC DE: 1B (R602). -/
def execDecDE (s : State) : Result := decrementPair .de s

/-- INC HL: 23 (R601). -/
def execIncHL (s : State) : Result := incrementPair .hl s

/-- ADD HL,HL: 29 (R600). -/
def execAddHLHL (s : State) : Result := addToHl .hl s

/-- DEC HL: 2B (R602). -/
def execDecHL (s : State) : Result := decrementPair .hl s

/-- INC SP: 33 (R601). -/
def execIncSP (s : State) : Result := incrementPair .sp s

/-- ADD HL,SP: 39 (R600). -/
def execAddHLSP (s : State) : Result := addToHl .sp s

/-- DEC SP: 3B (R602). -/
def execDecSP (s : State) : Result := decrementPair .sp s

/-- ADD SP,e8: E8 (R603). -/
def execAddSPE8 (e : Byte) (s : State) : Result := addToSp e s

/-- LD HL,SP+e8: F8 (R604). -/
def execLdHLSPE8 (e : Byte) (s : State) : Result := loadHlSp e s

end Sys2Proof.Machine
end

