-- ==== Sys2Proof/Machine/Alu8.lean ====
section
/-! DEFINITION. 8-bit arithmetic and logic (42_alu8 R500 to R553). -/

namespace Sys2Proof.Machine

/-- An accumulator operation on A and the operand `v`: A and the four flags written (R500 to R506); CP keeps A (R506). -/
def State.alu (s : State) (op : AluOp) (v : Byte) : State :=
  let r := aluResult op (s.reg .a) v s.flags.c
  (s.setReg .a r.1).setFlags r.2

/-- Register form (R500). -/
def aluOnReg (op : AluOp) (r : Reg8) (s : State) : Result := done (s.alu op (s.reg r))

/-- Memory form (R500). -/
def aluOnHL (op : AluOp) (s : State) : Result := s.withByteAt s.hl fun v => s.alu op v

/-- Immediate form (R500). -/
def aluOnImm (op : AluOp) (n : Byte) (s : State) : Result := done (s.alu op n)

/-- INC r (R540). -/
def increment (r : Reg8) (s : State) : Result :=
  let p := inc8 (s.reg r) s.flags
  done ((s.setReg r p.1).setFlags p.2)

/-- DEC r (R542). -/
def decrement (r : Reg8) (s : State) : Result :=
  let p := dec8 (s.reg r) s.flags
  done ((s.setReg r p.1).setFlags p.2)

/-- INC (HL) (R541): no flag is written if the write raises. -/
def incrementAtHL (s : State) : Result := s.modifyAtHL fun v => inc8 v s.flags

/-- DEC (HL) (R543): no flag is written if the write raises. -/
def decrementAtHL (s : State) : Result := s.modifyAtHL fun v => dec8 v s.flags

/-- DAA (R509, R550). -/
def decimalAdjust (s : State) : Result :=
  let p := daa8 (s.reg .a) s.flags
  done ((s.setReg .a p.1).setFlags p.2)

/-- CPL (R551). -/
def complement (s : State) : Result := done ((s.setReg .a (~~~(s.reg .a))).setFlags { s.flags with n := true, h := true })

/-- SCF (R552). -/
def setCarry (s : State) : Result := done (s.setFlags { s.flags with n := false, h := false, c := true })

/-- CCF (R553). -/
def flipCarry (s : State) : Result := done (s.setFlags { s.flags with n := false, h := false, c := !s.flags.c })

/-- INC B: 04 (R540). -/
def execIncB (s : State) : Result := increment .b s

/-- DEC B: 05 (R542). -/
def execDecB (s : State) : Result := decrement .b s

/-- INC C: 0C (R540). -/
def execIncC (s : State) : Result := increment .c s

/-- DEC C: 0D (R542). -/
def execDecC (s : State) : Result := decrement .c s

/-- INC D: 14 (R540). -/
def execIncD (s : State) : Result := increment .d s

/-- DEC D: 15 (R542). -/
def execDecD (s : State) : Result := decrement .d s

/-- INC E: 1C (R540). -/
def execIncE (s : State) : Result := increment .e s

/-- DEC E: 1D (R542). -/
def execDecE (s : State) : Result := decrement .e s

/-- INC H: 24 (R540). -/
def execIncH (s : State) : Result := increment .h s

/-- DEC H: 25 (R542). -/
def execDecH (s : State) : Result := decrement .h s

/-- DAA: 27 (R550). -/
def execDaa (s : State) : Result := decimalAdjust s

/-- INC L: 2C (R540). -/
def execIncL (s : State) : Result := increment .l s

/-- DEC L: 2D (R542). -/
def execDecL (s : State) : Result := decrement .l s

/-- CPL: 2F (R551). -/
def execCpl (s : State) : Result := complement s

/-- INC (HL): 34 (R541). -/
def execIncAtHL (s : State) : Result := incrementAtHL s

/-- DEC (HL): 35 (R543). -/
def execDecAtHL (s : State) : Result := decrementAtHL s

/-- SCF: 37 (R552). -/
def execScf (s : State) : Result := setCarry s

/-- INC A: 3C (R540). -/
def execIncA (s : State) : Result := increment .a s

/-- DEC A: 3D (R542). -/
def execDecA (s : State) : Result := decrement .a s

/-- CCF: 3F (R553). -/
def execCcf (s : State) : Result := flipCarry s

/-- ADD A,B: 80 (R510). -/
def execAddAB (s : State) : Result := aluOnReg .add .b s

/-- ADD A,C: 81 (R510). -/
def execAddAC (s : State) : Result := aluOnReg .add .c s

/-- ADD A,D: 82 (R510). -/
def execAddAD (s : State) : Result := aluOnReg .add .d s

/-- ADD A,E: 83 (R510). -/
def execAddAE (s : State) : Result := aluOnReg .add .e s

/-- ADD A,H: 84 (R510). -/
def execAddAH (s : State) : Result := aluOnReg .add .h s

/-- ADD A,L: 85 (R510). -/
def execAddAL (s : State) : Result := aluOnReg .add .l s

/-- ADD A,(HL): 86 (R511). -/
def execAddAAtHL (s : State) : Result := aluOnHL .add s

/-- ADD A,A: 87 (R510). -/
def execAddAA (s : State) : Result := aluOnReg .add .a s

/-- ADC A,B: 88 (R513). -/
def execAdcAB (s : State) : Result := aluOnReg .adc .b s

/-- ADC A,C: 89 (R513). -/
def execAdcAC (s : State) : Result := aluOnReg .adc .c s

/-- ADC A,D: 8A (R513). -/
def execAdcAD (s : State) : Result := aluOnReg .adc .d s

/-- ADC A,E: 8B (R513). -/
def execAdcAE (s : State) : Result := aluOnReg .adc .e s

/-- ADC A,H: 8C (R513). -/
def execAdcAH (s : State) : Result := aluOnReg .adc .h s

/-- ADC A,L: 8D (R513). -/
def execAdcAL (s : State) : Result := aluOnReg .adc .l s

/-- ADC A,(HL): 8E (R514). -/
def execAdcAAtHL (s : State) : Result := aluOnHL .adc s

/-- ADC A,A: 8F (R513). -/
def execAdcAA (s : State) : Result := aluOnReg .adc .a s

/-- SUB A,B: 90 (R516). -/
def execSubAB (s : State) : Result := aluOnReg .sub .b s

/-- SUB A,C: 91 (R516). -/
def execSubAC (s : State) : Result := aluOnReg .sub .c s

/-- SUB A,D: 92 (R516). -/
def execSubAD (s : State) : Result := aluOnReg .sub .d s

/-- SUB A,E: 93 (R516). -/
def execSubAE (s : State) : Result := aluOnReg .sub .e s

/-- SUB A,H: 94 (R516). -/
def execSubAH (s : State) : Result := aluOnReg .sub .h s

/-- SUB A,L: 95 (R516). -/
def execSubAL (s : State) : Result := aluOnReg .sub .l s

/-- SUB A,(HL): 96 (R517). -/
def execSubAAtHL (s : State) : Result := aluOnHL .sub s

/-- SUB A,A: 97 (R516). -/
def execSubAA (s : State) : Result := aluOnReg .sub .a s

/-- SBC A,B: 98 (R519). -/
def execSbcAB (s : State) : Result := aluOnReg .sbc .b s

/-- SBC A,C: 99 (R519). -/
def execSbcAC (s : State) : Result := aluOnReg .sbc .c s

/-- SBC A,D: 9A (R519). -/
def execSbcAD (s : State) : Result := aluOnReg .sbc .d s

/-- SBC A,E: 9B (R519). -/
def execSbcAE (s : State) : Result := aluOnReg .sbc .e s

/-- SBC A,H: 9C (R519). -/
def execSbcAH (s : State) : Result := aluOnReg .sbc .h s

/-- SBC A,L: 9D (R519). -/
def execSbcAL (s : State) : Result := aluOnReg .sbc .l s

/-- SBC A,(HL): 9E (R520). -/
def execSbcAAtHL (s : State) : Result := aluOnHL .sbc s

/-- SBC A,A: 9F (R519). -/
def execSbcAA (s : State) : Result := aluOnReg .sbc .a s

/-- AND A,B: A0 (R522). -/
def execAndAB (s : State) : Result := aluOnReg .and .b s

/-- AND A,C: A1 (R522). -/
def execAndAC (s : State) : Result := aluOnReg .and .c s

/-- AND A,D: A2 (R522). -/
def execAndAD (s : State) : Result := aluOnReg .and .d s

/-- AND A,E: A3 (R522). -/
def execAndAE (s : State) : Result := aluOnReg .and .e s

/-- AND A,H: A4 (R522). -/
def execAndAH (s : State) : Result := aluOnReg .and .h s

/-- AND A,L: A5 (R522). -/
def execAndAL (s : State) : Result := aluOnReg .and .l s

/-- AND A,(HL): A6 (R523). -/
def execAndAAtHL (s : State) : Result := aluOnHL .and s

/-- AND A,A: A7 (R522). -/
def execAndAA (s : State) : Result := aluOnReg .and .a s

/-- XOR A,B: A8 (R525). -/
def execXorAB (s : State) : Result := aluOnReg .xor .b s

/-- XOR A,C: A9 (R525). -/
def execXorAC (s : State) : Result := aluOnReg .xor .c s

/-- XOR A,D: AA (R525). -/
def execXorAD (s : State) : Result := aluOnReg .xor .d s

/-- XOR A,E: AB (R525). -/
def execXorAE (s : State) : Result := aluOnReg .xor .e s

/-- XOR A,H: AC (R525). -/
def execXorAH (s : State) : Result := aluOnReg .xor .h s

/-- XOR A,L: AD (R525). -/
def execXorAL (s : State) : Result := aluOnReg .xor .l s

/-- XOR A,(HL): AE (R526). -/
def execXorAAtHL (s : State) : Result := aluOnHL .xor s

/-- XOR A,A: AF (R525). -/
def execXorAA (s : State) : Result := aluOnReg .xor .a s

/-- OR A,B: B0 (R528). -/
def execOrAB (s : State) : Result := aluOnReg .or .b s

/-- OR A,C: B1 (R528). -/
def execOrAC (s : State) : Result := aluOnReg .or .c s

/-- OR A,D: B2 (R528). -/
def execOrAD (s : State) : Result := aluOnReg .or .d s

/-- OR A,E: B3 (R528). -/
def execOrAE (s : State) : Result := aluOnReg .or .e s

/-- OR A,H: B4 (R528). -/
def execOrAH (s : State) : Result := aluOnReg .or .h s

/-- OR A,L: B5 (R528). -/
def execOrAL (s : State) : Result := aluOnReg .or .l s

/-- OR A,(HL): B6 (R529). -/
def execOrAAtHL (s : State) : Result := aluOnHL .or s

/-- OR A,A: B7 (R528). -/
def execOrAA (s : State) : Result := aluOnReg .or .a s

/-- CP A,B: B8 (R531). -/
def execCpAB (s : State) : Result := aluOnReg .cp .b s

/-- CP A,C: B9 (R531). -/
def execCpAC (s : State) : Result := aluOnReg .cp .c s

/-- CP A,D: BA (R531). -/
def execCpAD (s : State) : Result := aluOnReg .cp .d s

/-- CP A,E: BB (R531). -/
def execCpAE (s : State) : Result := aluOnReg .cp .e s

/-- CP A,H: BC (R531). -/
def execCpAH (s : State) : Result := aluOnReg .cp .h s

/-- CP A,L: BD (R531). -/
def execCpAL (s : State) : Result := aluOnReg .cp .l s

/-- CP A,(HL): BE (R532). -/
def execCpAAtHL (s : State) : Result := aluOnHL .cp s

/-- CP A,A: BF (R531). -/
def execCpAA (s : State) : Result := aluOnReg .cp .a s

/-- ADD A,d8: C6 (R512). -/
def execAddAImm8 (n : Byte) (s : State) : Result := aluOnImm .add n s

/-- ADC A,d8: CE (R515). -/
def execAdcAImm8 (n : Byte) (s : State) : Result := aluOnImm .adc n s

/-- SUB A,d8: D6 (R518). -/
def execSubAImm8 (n : Byte) (s : State) : Result := aluOnImm .sub n s

/-- SBC A,d8: DE (R521). -/
def execSbcAImm8 (n : Byte) (s : State) : Result := aluOnImm .sbc n s

/-- AND A,d8: E6 (R524). -/
def execAndAImm8 (n : Byte) (s : State) : Result := aluOnImm .and n s

/-- XOR A,d8: EE (R527). -/
def execXorAImm8 (n : Byte) (s : State) : Result := aluOnImm .xor n s

/-- OR A,d8: F6 (R530). -/
def execOrAImm8 (n : Byte) (s : State) : Result := aluOnImm .or n s

/-- CP A,d8: FE (R533). -/
def execCpAImm8 (n : Byte) (s : State) : Result := aluOnImm .cp n s

end Sys2Proof.Machine
end

