-- ==== Sys2Proof/Machine/BitOps.lean ====
section
/-! DEFINITION. BIT, RES and SET (44_rotate_shift_bit R680 to R686). -/

namespace Sys2Proof.Machine

/-- BIT b,r (R680). -/
def testReg (b : Nat) (r : Reg8) (s : State) : Result := done (s.setFlags (bitTest b (s.reg r) s.flags))

/-- BIT b,(HL): no write (R681). -/
def testAtHL (b : Nat) (s : State) : Result := s.withByteAt s.hl fun v => s.setFlags (bitTest b v s.flags)

/-- RES b,r: no flag (R682). -/
def clearReg (b : Nat) (r : Reg8) (s : State) : Result := done (s.setReg r (clearBit b (s.reg r)))

/-- RES b,(HL): the write happens even when the bit was clear (R683). -/
def clearAtHL (b : Nat) (s : State) : Result := s.replaceAtHL (clearBit b)

/-- SET b,r: no flag (R684). -/
def insertReg (b : Nat) (r : Reg8) (s : State) : Result := done (s.setReg r (insertBit b (s.reg r)))

/-- SET b,(HL): the write happens even when the bit was set (R685). -/
def insertAtHL (b : Nat) (s : State) : Result := s.replaceAtHL (insertBit b)

/-- BIT 0,B: CB 40 (R680). -/
def execBit0B (s : State) : Result := testReg 0 .b s

/-- BIT 0,C: CB 41 (R680). -/
def execBit0C (s : State) : Result := testReg 0 .c s

/-- BIT 0,D: CB 42 (R680). -/
def execBit0D (s : State) : Result := testReg 0 .d s

/-- BIT 0,E: CB 43 (R680). -/
def execBit0E (s : State) : Result := testReg 0 .e s

/-- BIT 0,H: CB 44 (R680). -/
def execBit0H (s : State) : Result := testReg 0 .h s

/-- BIT 0,L: CB 45 (R680). -/
def execBit0L (s : State) : Result := testReg 0 .l s

/-- BIT 0,(HL): CB 46 (R681). -/
def execBit0AtHL (s : State) : Result := testAtHL 0 s

/-- BIT 0,A: CB 47 (R680). -/
def execBit0A (s : State) : Result := testReg 0 .a s

/-- BIT 1,B: CB 48 (R680). -/
def execBit1B (s : State) : Result := testReg 1 .b s

/-- BIT 1,C: CB 49 (R680). -/
def execBit1C (s : State) : Result := testReg 1 .c s

/-- BIT 1,D: CB 4A (R680). -/
def execBit1D (s : State) : Result := testReg 1 .d s

/-- BIT 1,E: CB 4B (R680). -/
def execBit1E (s : State) : Result := testReg 1 .e s

/-- BIT 1,H: CB 4C (R680). -/
def execBit1H (s : State) : Result := testReg 1 .h s

/-- BIT 1,L: CB 4D (R680). -/
def execBit1L (s : State) : Result := testReg 1 .l s

/-- BIT 1,(HL): CB 4E (R681). -/
def execBit1AtHL (s : State) : Result := testAtHL 1 s

/-- BIT 1,A: CB 4F (R680). -/
def execBit1A (s : State) : Result := testReg 1 .a s

/-- BIT 2,B: CB 50 (R680). -/
def execBit2B (s : State) : Result := testReg 2 .b s

/-- BIT 2,C: CB 51 (R680). -/
def execBit2C (s : State) : Result := testReg 2 .c s

/-- BIT 2,D: CB 52 (R680). -/
def execBit2D (s : State) : Result := testReg 2 .d s

/-- BIT 2,E: CB 53 (R680). -/
def execBit2E (s : State) : Result := testReg 2 .e s

/-- BIT 2,H: CB 54 (R680). -/
def execBit2H (s : State) : Result := testReg 2 .h s

/-- BIT 2,L: CB 55 (R680). -/
def execBit2L (s : State) : Result := testReg 2 .l s

/-- BIT 2,(HL): CB 56 (R681). -/
def execBit2AtHL (s : State) : Result := testAtHL 2 s

/-- BIT 2,A: CB 57 (R680). -/
def execBit2A (s : State) : Result := testReg 2 .a s

/-- BIT 3,B: CB 58 (R680). -/
def execBit3B (s : State) : Result := testReg 3 .b s

/-- BIT 3,C: CB 59 (R680). -/
def execBit3C (s : State) : Result := testReg 3 .c s

/-- BIT 3,D: CB 5A (R680). -/
def execBit3D (s : State) : Result := testReg 3 .d s

/-- BIT 3,E: CB 5B (R680). -/
def execBit3E (s : State) : Result := testReg 3 .e s

/-- BIT 3,H: CB 5C (R680). -/
def execBit3H (s : State) : Result := testReg 3 .h s

/-- BIT 3,L: CB 5D (R680). -/
def execBit3L (s : State) : Result := testReg 3 .l s

/-- BIT 3,(HL): CB 5E (R681). -/
def execBit3AtHL (s : State) : Result := testAtHL 3 s

/-- BIT 3,A: CB 5F (R680). -/
def execBit3A (s : State) : Result := testReg 3 .a s

/-- BIT 4,B: CB 60 (R680). -/
def execBit4B (s : State) : Result := testReg 4 .b s

/-- BIT 4,C: CB 61 (R680). -/
def execBit4C (s : State) : Result := testReg 4 .c s

/-- BIT 4,D: CB 62 (R680). -/
def execBit4D (s : State) : Result := testReg 4 .d s

/-- BIT 4,E: CB 63 (R680). -/
def execBit4E (s : State) : Result := testReg 4 .e s

/-- BIT 4,H: CB 64 (R680). -/
def execBit4H (s : State) : Result := testReg 4 .h s

/-- BIT 4,L: CB 65 (R680). -/
def execBit4L (s : State) : Result := testReg 4 .l s

/-- BIT 4,(HL): CB 66 (R681). -/
def execBit4AtHL (s : State) : Result := testAtHL 4 s

/-- BIT 4,A: CB 67 (R680). -/
def execBit4A (s : State) : Result := testReg 4 .a s

/-- BIT 5,B: CB 68 (R680). -/
def execBit5B (s : State) : Result := testReg 5 .b s

/-- BIT 5,C: CB 69 (R680). -/
def execBit5C (s : State) : Result := testReg 5 .c s

/-- BIT 5,D: CB 6A (R680). -/
def execBit5D (s : State) : Result := testReg 5 .d s

/-- BIT 5,E: CB 6B (R680). -/
def execBit5E (s : State) : Result := testReg 5 .e s

/-- BIT 5,H: CB 6C (R680). -/
def execBit5H (s : State) : Result := testReg 5 .h s

/-- BIT 5,L: CB 6D (R680). -/
def execBit5L (s : State) : Result := testReg 5 .l s

/-- BIT 5,(HL): CB 6E (R681). -/
def execBit5AtHL (s : State) : Result := testAtHL 5 s

/-- BIT 5,A: CB 6F (R680). -/
def execBit5A (s : State) : Result := testReg 5 .a s

/-- BIT 6,B: CB 70 (R680). -/
def execBit6B (s : State) : Result := testReg 6 .b s

/-- BIT 6,C: CB 71 (R680). -/
def execBit6C (s : State) : Result := testReg 6 .c s

/-- BIT 6,D: CB 72 (R680). -/
def execBit6D (s : State) : Result := testReg 6 .d s

/-- BIT 6,E: CB 73 (R680). -/
def execBit6E (s : State) : Result := testReg 6 .e s

/-- BIT 6,H: CB 74 (R680). -/
def execBit6H (s : State) : Result := testReg 6 .h s

/-- BIT 6,L: CB 75 (R680). -/
def execBit6L (s : State) : Result := testReg 6 .l s

/-- BIT 6,(HL): CB 76 (R681). -/
def execBit6AtHL (s : State) : Result := testAtHL 6 s

/-- BIT 6,A: CB 77 (R680). -/
def execBit6A (s : State) : Result := testReg 6 .a s

/-- BIT 7,B: CB 78 (R680). -/
def execBit7B (s : State) : Result := testReg 7 .b s

/-- BIT 7,C: CB 79 (R680). -/
def execBit7C (s : State) : Result := testReg 7 .c s

/-- BIT 7,D: CB 7A (R680). -/
def execBit7D (s : State) : Result := testReg 7 .d s

/-- BIT 7,E: CB 7B (R680). -/
def execBit7E (s : State) : Result := testReg 7 .e s

/-- BIT 7,H: CB 7C (R680). -/
def execBit7H (s : State) : Result := testReg 7 .h s

/-- BIT 7,L: CB 7D (R680). -/
def execBit7L (s : State) : Result := testReg 7 .l s

/-- BIT 7,(HL): CB 7E (R681). -/
def execBit7AtHL (s : State) : Result := testAtHL 7 s

/-- BIT 7,A: CB 7F (R680). -/
def execBit7A (s : State) : Result := testReg 7 .a s

/-- RES 0,B: CB 80 (R682). -/
def execRes0B (s : State) : Result := clearReg 0 .b s

/-- RES 0,C: CB 81 (R682). -/
def execRes0C (s : State) : Result := clearReg 0 .c s

/-- RES 0,D: CB 82 (R682). -/
def execRes0D (s : State) : Result := clearReg 0 .d s

/-- RES 0,E: CB 83 (R682). -/
def execRes0E (s : State) : Result := clearReg 0 .e s

/-- RES 0,H: CB 84 (R682). -/
def execRes0H (s : State) : Result := clearReg 0 .h s

/-- RES 0,L: CB 85 (R682). -/
def execRes0L (s : State) : Result := clearReg 0 .l s

/-- RES 0,(HL): CB 86 (R683). -/
def execRes0AtHL (s : State) : Result := clearAtHL 0 s

/-- RES 0,A: CB 87 (R682). -/
def execRes0A (s : State) : Result := clearReg 0 .a s

/-- RES 1,B: CB 88 (R682). -/
def execRes1B (s : State) : Result := clearReg 1 .b s

/-- RES 1,C: CB 89 (R682). -/
def execRes1C (s : State) : Result := clearReg 1 .c s

/-- RES 1,D: CB 8A (R682). -/
def execRes1D (s : State) : Result := clearReg 1 .d s

/-- RES 1,E: CB 8B (R682). -/
def execRes1E (s : State) : Result := clearReg 1 .e s

/-- RES 1,H: CB 8C (R682). -/
def execRes1H (s : State) : Result := clearReg 1 .h s

/-- RES 1,L: CB 8D (R682). -/
def execRes1L (s : State) : Result := clearReg 1 .l s

/-- RES 1,(HL): CB 8E (R683). -/
def execRes1AtHL (s : State) : Result := clearAtHL 1 s

/-- RES 1,A: CB 8F (R682). -/
def execRes1A (s : State) : Result := clearReg 1 .a s

/-- RES 2,B: CB 90 (R682). -/
def execRes2B (s : State) : Result := clearReg 2 .b s

/-- RES 2,C: CB 91 (R682). -/
def execRes2C (s : State) : Result := clearReg 2 .c s

/-- RES 2,D: CB 92 (R682). -/
def execRes2D (s : State) : Result := clearReg 2 .d s

/-- RES 2,E: CB 93 (R682). -/
def execRes2E (s : State) : Result := clearReg 2 .e s

/-- RES 2,H: CB 94 (R682). -/
def execRes2H (s : State) : Result := clearReg 2 .h s

/-- RES 2,L: CB 95 (R682). -/
def execRes2L (s : State) : Result := clearReg 2 .l s

/-- RES 2,(HL): CB 96 (R683). -/
def execRes2AtHL (s : State) : Result := clearAtHL 2 s

/-- RES 2,A: CB 97 (R682). -/
def execRes2A (s : State) : Result := clearReg 2 .a s

/-- RES 3,B: CB 98 (R682). -/
def execRes3B (s : State) : Result := clearReg 3 .b s

/-- RES 3,C: CB 99 (R682). -/
def execRes3C (s : State) : Result := clearReg 3 .c s

/-- RES 3,D: CB 9A (R682). -/
def execRes3D (s : State) : Result := clearReg 3 .d s

/-- RES 3,E: CB 9B (R682). -/
def execRes3E (s : State) : Result := clearReg 3 .e s

/-- RES 3,H: CB 9C (R682). -/
def execRes3H (s : State) : Result := clearReg 3 .h s

/-- RES 3,L: CB 9D (R682). -/
def execRes3L (s : State) : Result := clearReg 3 .l s

/-- RES 3,(HL): CB 9E (R683). -/
def execRes3AtHL (s : State) : Result := clearAtHL 3 s

/-- RES 3,A: CB 9F (R682). -/
def execRes3A (s : State) : Result := clearReg 3 .a s

/-- RES 4,B: CB A0 (R682). -/
def execRes4B (s : State) : Result := clearReg 4 .b s

/-- RES 4,C: CB A1 (R682). -/
def execRes4C (s : State) : Result := clearReg 4 .c s

/-- RES 4,D: CB A2 (R682). -/
def execRes4D (s : State) : Result := clearReg 4 .d s

/-- RES 4,E: CB A3 (R682). -/
def execRes4E (s : State) : Result := clearReg 4 .e s

/-- RES 4,H: CB A4 (R682). -/
def execRes4H (s : State) : Result := clearReg 4 .h s

/-- RES 4,L: CB A5 (R682). -/
def execRes4L (s : State) : Result := clearReg 4 .l s

/-- RES 4,(HL): CB A6 (R683). -/
def execRes4AtHL (s : State) : Result := clearAtHL 4 s

/-- RES 4,A: CB A7 (R682). -/
def execRes4A (s : State) : Result := clearReg 4 .a s

/-- RES 5,B: CB A8 (R682). -/
def execRes5B (s : State) : Result := clearReg 5 .b s

/-- RES 5,C: CB A9 (R682). -/
def execRes5C (s : State) : Result := clearReg 5 .c s

/-- RES 5,D: CB AA (R682). -/
def execRes5D (s : State) : Result := clearReg 5 .d s

/-- RES 5,E: CB AB (R682). -/
def execRes5E (s : State) : Result := clearReg 5 .e s

/-- RES 5,H: CB AC (R682). -/
def execRes5H (s : State) : Result := clearReg 5 .h s

/-- RES 5,L: CB AD (R682). -/
def execRes5L (s : State) : Result := clearReg 5 .l s

/-- RES 5,(HL): CB AE (R683). -/
def execRes5AtHL (s : State) : Result := clearAtHL 5 s

/-- RES 5,A: CB AF (R682). -/
def execRes5A (s : State) : Result := clearReg 5 .a s

/-- RES 6,B: CB B0 (R682). -/
def execRes6B (s : State) : Result := clearReg 6 .b s

/-- RES 6,C: CB B1 (R682). -/
def execRes6C (s : State) : Result := clearReg 6 .c s

/-- RES 6,D: CB B2 (R682). -/
def execRes6D (s : State) : Result := clearReg 6 .d s

/-- RES 6,E: CB B3 (R682). -/
def execRes6E (s : State) : Result := clearReg 6 .e s

/-- RES 6,H: CB B4 (R682). -/
def execRes6H (s : State) : Result := clearReg 6 .h s

/-- RES 6,L: CB B5 (R682). -/
def execRes6L (s : State) : Result := clearReg 6 .l s

/-- RES 6,(HL): CB B6 (R683). -/
def execRes6AtHL (s : State) : Result := clearAtHL 6 s

/-- RES 6,A: CB B7 (R682). -/
def execRes6A (s : State) : Result := clearReg 6 .a s

/-- RES 7,B: CB B8 (R682). -/
def execRes7B (s : State) : Result := clearReg 7 .b s

/-- RES 7,C: CB B9 (R682). -/
def execRes7C (s : State) : Result := clearReg 7 .c s

/-- RES 7,D: CB BA (R682). -/
def execRes7D (s : State) : Result := clearReg 7 .d s

/-- RES 7,E: CB BB (R682). -/
def execRes7E (s : State) : Result := clearReg 7 .e s

/-- RES 7,H: CB BC (R682). -/
def execRes7H (s : State) : Result := clearReg 7 .h s

/-- RES 7,L: CB BD (R682). -/
def execRes7L (s : State) : Result := clearReg 7 .l s

/-- RES 7,(HL): CB BE (R683). -/
def execRes7AtHL (s : State) : Result := clearAtHL 7 s

/-- RES 7,A: CB BF (R682). -/
def execRes7A (s : State) : Result := clearReg 7 .a s

/-- SET 0,B: CB C0 (R684). -/
def execSet0B (s : State) : Result := insertReg 0 .b s

/-- SET 0,C: CB C1 (R684). -/
def execSet0C (s : State) : Result := insertReg 0 .c s

/-- SET 0,D: CB C2 (R684). -/
def execSet0D (s : State) : Result := insertReg 0 .d s

/-- SET 0,E: CB C3 (R684). -/
def execSet0E (s : State) : Result := insertReg 0 .e s

/-- SET 0,H: CB C4 (R684). -/
def execSet0H (s : State) : Result := insertReg 0 .h s

/-- SET 0,L: CB C5 (R684). -/
def execSet0L (s : State) : Result := insertReg 0 .l s

/-- SET 0,(HL): CB C6 (R685). -/
def execSet0AtHL (s : State) : Result := insertAtHL 0 s

/-- SET 0,A: CB C7 (R684). -/
def execSet0A (s : State) : Result := insertReg 0 .a s

/-- SET 1,B: CB C8 (R684). -/
def execSet1B (s : State) : Result := insertReg 1 .b s

/-- SET 1,C: CB C9 (R684). -/
def execSet1C (s : State) : Result := insertReg 1 .c s

/-- SET 1,D: CB CA (R684). -/
def execSet1D (s : State) : Result := insertReg 1 .d s

/-- SET 1,E: CB CB (R684). -/
def execSet1E (s : State) : Result := insertReg 1 .e s

/-- SET 1,H: CB CC (R684). -/
def execSet1H (s : State) : Result := insertReg 1 .h s

/-- SET 1,L: CB CD (R684). -/
def execSet1L (s : State) : Result := insertReg 1 .l s

/-- SET 1,(HL): CB CE (R685). -/
def execSet1AtHL (s : State) : Result := insertAtHL 1 s

/-- SET 1,A: CB CF (R684). -/
def execSet1A (s : State) : Result := insertReg 1 .a s

/-- SET 2,B: CB D0 (R684). -/
def execSet2B (s : State) : Result := insertReg 2 .b s

/-- SET 2,C: CB D1 (R684). -/
def execSet2C (s : State) : Result := insertReg 2 .c s

/-- SET 2,D: CB D2 (R684). -/
def execSet2D (s : State) : Result := insertReg 2 .d s

/-- SET 2,E: CB D3 (R684). -/
def execSet2E (s : State) : Result := insertReg 2 .e s

/-- SET 2,H: CB D4 (R684). -/
def execSet2H (s : State) : Result := insertReg 2 .h s

/-- SET 2,L: CB D5 (R684). -/
def execSet2L (s : State) : Result := insertReg 2 .l s

/-- SET 2,(HL): CB D6 (R685). -/
def execSet2AtHL (s : State) : Result := insertAtHL 2 s

/-- SET 2,A: CB D7 (R684). -/
def execSet2A (s : State) : Result := insertReg 2 .a s

/-- SET 3,B: CB D8 (R684). -/
def execSet3B (s : State) : Result := insertReg 3 .b s

/-- SET 3,C: CB D9 (R684). -/
def execSet3C (s : State) : Result := insertReg 3 .c s

/-- SET 3,D: CB DA (R684). -/
def execSet3D (s : State) : Result := insertReg 3 .d s

/-- SET 3,E: CB DB (R684). -/
def execSet3E (s : State) : Result := insertReg 3 .e s

/-- SET 3,H: CB DC (R684). -/
def execSet3H (s : State) : Result := insertReg 3 .h s

/-- SET 3,L: CB DD (R684). -/
def execSet3L (s : State) : Result := insertReg 3 .l s

/-- SET 3,(HL): CB DE (R685). -/
def execSet3AtHL (s : State) : Result := insertAtHL 3 s

/-- SET 3,A: CB DF (R684). -/
def execSet3A (s : State) : Result := insertReg 3 .a s

/-- SET 4,B: CB E0 (R684). -/
def execSet4B (s : State) : Result := insertReg 4 .b s

/-- SET 4,C: CB E1 (R684). -/
def execSet4C (s : State) : Result := insertReg 4 .c s

/-- SET 4,D: CB E2 (R684). -/
def execSet4D (s : State) : Result := insertReg 4 .d s

/-- SET 4,E: CB E3 (R684). -/
def execSet4E (s : State) : Result := insertReg 4 .e s

/-- SET 4,H: CB E4 (R684). -/
def execSet4H (s : State) : Result := insertReg 4 .h s

/-- SET 4,L: CB E5 (R684). -/
def execSet4L (s : State) : Result := insertReg 4 .l s

/-- SET 4,(HL): CB E6 (R685). -/
def execSet4AtHL (s : State) : Result := insertAtHL 4 s

/-- SET 4,A: CB E7 (R684). -/
def execSet4A (s : State) : Result := insertReg 4 .a s

/-- SET 5,B: CB E8 (R684). -/
def execSet5B (s : State) : Result := insertReg 5 .b s

/-- SET 5,C: CB E9 (R684). -/
def execSet5C (s : State) : Result := insertReg 5 .c s

/-- SET 5,D: CB EA (R684). -/
def execSet5D (s : State) : Result := insertReg 5 .d s

/-- SET 5,E: CB EB (R684). -/
def execSet5E (s : State) : Result := insertReg 5 .e s

/-- SET 5,H: CB EC (R684). -/
def execSet5H (s : State) : Result := insertReg 5 .h s

/-- SET 5,L: CB ED (R684). -/
def execSet5L (s : State) : Result := insertReg 5 .l s

/-- SET 5,(HL): CB EE (R685). -/
def execSet5AtHL (s : State) : Result := insertAtHL 5 s

/-- SET 5,A: CB EF (R684). -/
def execSet5A (s : State) : Result := insertReg 5 .a s

/-- SET 6,B: CB F0 (R684). -/
def execSet6B (s : State) : Result := insertReg 6 .b s

/-- SET 6,C: CB F1 (R684). -/
def execSet6C (s : State) : Result := insertReg 6 .c s

/-- SET 6,D: CB F2 (R684). -/
def execSet6D (s : State) : Result := insertReg 6 .d s

/-- SET 6,E: CB F3 (R684). -/
def execSet6E (s : State) : Result := insertReg 6 .e s

/-- SET 6,H: CB F4 (R684). -/
def execSet6H (s : State) : Result := insertReg 6 .h s

/-- SET 6,L: CB F5 (R684). -/
def execSet6L (s : State) : Result := insertReg 6 .l s

/-- SET 6,(HL): CB F6 (R685). -/
def execSet6AtHL (s : State) : Result := insertAtHL 6 s

/-- SET 6,A: CB F7 (R684). -/
def execSet6A (s : State) : Result := insertReg 6 .a s

/-- SET 7,B: CB F8 (R684). -/
def execSet7B (s : State) : Result := insertReg 7 .b s

/-- SET 7,C: CB F9 (R684). -/
def execSet7C (s : State) : Result := insertReg 7 .c s

/-- SET 7,D: CB FA (R684). -/
def execSet7D (s : State) : Result := insertReg 7 .d s

/-- SET 7,E: CB FB (R684). -/
def execSet7E (s : State) : Result := insertReg 7 .e s

/-- SET 7,H: CB FC (R684). -/
def execSet7H (s : State) : Result := insertReg 7 .h s

/-- SET 7,L: CB FD (R684). -/
def execSet7L (s : State) : Result := insertReg 7 .l s

/-- SET 7,(HL): CB FE (R685). -/
def execSet7AtHL (s : State) : Result := insertAtHL 7 s

/-- SET 7,A: CB FF (R684). -/
def execSet7A (s : State) : Result := insertReg 7 .a s

end Sys2Proof.Machine
end

