-- ==== Sys2Proof/Machine/Control.lean ====
section
/-! DEFINITION. Jumps, calls, returns and restarts (45_control R700 to R711). PC is the address after the instruction when a
meaning runs: what a call pushes. No control instruction writes a flag. -/

namespace Sys2Proof.Machine

/-- `pc <- a` (R701, R703). -/
def jump (a : Word) (s : State) : Result := done (s.setPc a)

/-- `if cond(cc): pc <- a` (R702). -/
def jumpIf (cc : Cond) (a : Word) (s : State) : Result := done (if s.cond cc then s.setPc a else s)

/-- `pc <- pc + d` (R704). -/
def jumpRel (e : Byte) (s : State) : Result := done (s.setPc (s.regs.pc + sext16 e))

/-- `if cond(cc): pc <- pc + d` (R705). -/
def jumpRelIf (cc : Cond) (e : Byte) (s : State) : Result :=
  done (if s.cond cc then s.setPc (s.regs.pc + sext16 e) else s)

/-- `push16(pc); pc <- a`: an error of the push leaves PC the return address (R706, R711). -/
def State.callTo (s : State) (a : Word) : Run := (s.push16 s.regs.pc).andThen fun s1 => .ok (s1.setPc a)

/-- CALL a16 (R706). -/
def call (a : Word) (s : State) : Result := (s.callTo a).result

/-- CALL cc,a16: not taken, nothing is pushed (R707). -/
def callIf (cc : Cond) (a : Word) (s : State) : Result := if s.cond cc then (s.callTo a).result else done s

/-- `pc <- pop16()` (R708). -/
def State.popPc (s : State) : Run := s.pop16 fun w s1 => .ok (s1.setPc w)

/-- RET (R708). -/
def returnPc (s : State) : Result := s.popPc.result

/-- RET cc: not taken, nothing is popped (R709). -/
def returnIf (cc : Cond) (s : State) : Result := if s.cond cc then s.popPc.result else done s

/-- RETI (R710). -/
def returnEnable (s : State) : Result := s.returnInterrupt.result

/-- RST t (R711). -/
def restart (t : Nat) (s : State) : Result := (s.callTo (rstTarget t)).result

/-- JR e8: 18 (R704). -/
def execJrE8 (e : Byte) (s : State) : Result := jumpRel e s

/-- JR NZ,e8: 20 (R705). -/
def execJrNZE8 (e : Byte) (s : State) : Result := jumpRelIf .nz e s

/-- JR Z,e8: 28 (R705). -/
def execJrZE8 (e : Byte) (s : State) : Result := jumpRelIf .z e s

/-- JR NC,e8: 30 (R705). -/
def execJrNCE8 (e : Byte) (s : State) : Result := jumpRelIf .nc e s

/-- JR C,e8: 38 (R705). -/
def execJrCE8 (e : Byte) (s : State) : Result := jumpRelIf .c e s

/-- RET NZ: C0 (R709). -/
def execRetNZ (s : State) : Result := returnIf .nz s

/-- JP NZ,a16: C2 (R702). -/
def execJpNZA16 (nn : Word) (s : State) : Result := jumpIf .nz nn s

/-- JP a16: C3 (R701). -/
def execJpA16 (nn : Word) (s : State) : Result := jump nn s

/-- CALL NZ,a16: C4 (R707). -/
def execCallNZA16 (nn : Word) (s : State) : Result := callIf .nz nn s

/-- RST 00: C7 (R711). -/
def execRst00 (s : State) : Result := restart 0 s

/-- RET Z: C8 (R709). -/
def execRetZ (s : State) : Result := returnIf .z s

/-- RET: C9 (R708). -/
def execRet (s : State) : Result := returnPc s

/-- JP Z,a16: CA (R702). -/
def execJpZA16 (nn : Word) (s : State) : Result := jumpIf .z nn s

/-- CALL Z,a16: CC (R707). -/
def execCallZA16 (nn : Word) (s : State) : Result := callIf .z nn s

/-- CALL a16: CD (R706). -/
def execCallA16 (nn : Word) (s : State) : Result := call nn s

/-- RST 08: CF (R711). -/
def execRst08 (s : State) : Result := restart 1 s

/-- RET NC: D0 (R709). -/
def execRetNC (s : State) : Result := returnIf .nc s

/-- JP NC,a16: D2 (R702). -/
def execJpNCA16 (nn : Word) (s : State) : Result := jumpIf .nc nn s

/-- CALL NC,a16: D4 (R707). -/
def execCallNCA16 (nn : Word) (s : State) : Result := callIf .nc nn s

/-- RST 10: D7 (R711). -/
def execRst10 (s : State) : Result := restart 2 s

/-- RET C: D8 (R709). -/
def execRetC (s : State) : Result := returnIf .c s

/-- RETI: D9 (R710). -/
def execReti (s : State) : Result := returnEnable s

/-- JP C,a16: DA (R702). -/
def execJpCA16 (nn : Word) (s : State) : Result := jumpIf .c nn s

/-- CALL C,a16: DC (R707). -/
def execCallCA16 (nn : Word) (s : State) : Result := callIf .c nn s

/-- RST 18: DF (R711). -/
def execRst18 (s : State) : Result := restart 3 s

/-- RST 20: E7 (R711). -/
def execRst20 (s : State) : Result := restart 4 s

/-- JP HL: E9 (R703). -/
def execJpHL (s : State) : Result := jump s.hl s

/-- RST 28: EF (R711). -/
def execRst28 (s : State) : Result := restart 5 s

/-- RST 30: F7 (R711). -/
def execRst30 (s : State) : Result := restart 6 s

/-- RST 38: FF (R711). -/
def execRst38 (s : State) : Result := restart 7 s

end Sys2Proof.Machine
end

