-- ==== Sys2Proof/Machine/Load16.lean ====
section
/-! DEFINITION. The 16-bit loads and the stack (41_load16 R450 to R456). -/

namespace Sys2Proof.Machine

/-- `x[rr] <- v` (R450). -/
def loadPairImm (p : Pair) (nn : Word) (s : State) : Result := done (s.setPair p nn)

/-- `MemWrite16(a, sp)` (R451). -/
def storeSp (nn : Word) (s : State) : Result := (s.memWrite16 nn s.regs.sp).result

/-- `sp <- x[HL]` (R452). -/
def loadSpHl (s : State) : Result := done (s.setSp s.hl)

/-- `push16(x[rr])` (R453). -/
def push (p : StackPair) (s : State) : Result := (s.push16 (s.stackPair p)).result

/-- `v <- pop16(); x[rr] <- v` (R454); AF discards the low nibble of F (R455). -/
def pop (p : StackPair) (s : State) : Result := (s.pop16 fun w s1 => .ok (s1.setStackPair p w)).result

/-- LD BC,d16: 01 (R450). -/
def execLdBCImm16 (nn : Word) (s : State) : Result := loadPairImm .bc nn s

/-- LD (a16),SP: 08 (R451). -/
def execLdAtA16SP (nn : Word) (s : State) : Result := storeSp nn s

/-- LD DE,d16: 11 (R450). -/
def execLdDEImm16 (nn : Word) (s : State) : Result := loadPairImm .de nn s

/-- LD HL,d16: 21 (R450). -/
def execLdHLImm16 (nn : Word) (s : State) : Result := loadPairImm .hl nn s

/-- LD SP,d16: 31 (R450). -/
def execLdSPImm16 (nn : Word) (s : State) : Result := loadPairImm .sp nn s

/-- POP BC: C1 (R454). -/
def execPopBC (s : State) : Result := pop .bc s

/-- PUSH BC: C5 (R453). -/
def execPushBC (s : State) : Result := push .bc s

/-- POP DE: D1 (R454). -/
def execPopDE (s : State) : Result := pop .de s

/-- PUSH DE: D5 (R453). -/
def execPushDE (s : State) : Result := push .de s

/-- POP HL: E1 (R454). -/
def execPopHL (s : State) : Result := pop .hl s

/-- PUSH HL: E5 (R453). -/
def execPushHL (s : State) : Result := push .hl s

/-- POP AF: F1 (R455). -/
def execPopAF (s : State) : Result := pop .af s

/-- PUSH AF: F5 (R453). -/
def execPushAF (s : State) : Result := push .af s

/-- LD SP,HL: F9 (R452). -/
def execLdSPHL (s : State) : Result := loadSpHl s

end Sys2Proof.Machine
end

