-- ==== Sys2Proof/Machine/Load8.lean ====
section
/-! DEFINITION. The 8-bit loads (40_load8 R400 to R421). No load writes a flag (R421). -/

namespace Sys2Proof.Machine

/-- `x[d] <- x[s]` (R400). -/
def loadReg (dst src : Reg8) (s : State) : Result := done (s.setReg dst (s.reg src))

/-- `x[d] <- v` (R401). -/
def loadImm (dst : Reg8) (n : Byte) (s : State) : Result := done (s.setReg dst n)

/-- `x[d] <- MemRead(a, 1)` (R402, R405, R406, R409, R411, R413). -/
def loadAt (dst : Reg8) (a : Word) (s : State) : Result := s.withByteAt a fun v => s.setReg dst v

/-- `MemWrite(a, 1, v)` (R403, R404, R407, R408, R410, R412, R414). -/
def storeAt (a : Word) (v : Byte) (s : State) : Result := s.storeByte a v id

/-- `x[A] <- MemRead(x[HL], 1)`, then HL moved by `step` (R415, R417). -/
def loadStep (step : Word) (s : State) : Result :=
  s.withByteAt s.hl fun v => (s.setReg .a v).setHl (s.hl + step)

/-- `MemWrite(x[HL], 1, x[A])`, then HL moved by `step` (R416, R418). -/
def storeStep (step : Word) (s : State) : Result :=
  s.storeByte s.hl (s.reg .a) fun s1 => s1.setHl (s.hl + step)

/-- LD (BC),A: 02 (R407). -/
def execLdAtBCA (s : State) : Result := storeAt s.bc (s.reg .a) s

/-- LD B,d8: 06 (R401). -/
def execLdBImm8 (n : Byte) (s : State) : Result := loadImm .b n s

/-- LD A,(BC): 0A (R405). -/
def execLdAAtBC (s : State) : Result := loadAt .a s.bc s

/-- LD C,d8: 0E (R401). -/
def execLdCImm8 (n : Byte) (s : State) : Result := loadImm .c n s

/-- LD (DE),A: 12 (R408). -/
def execLdAtDEA (s : State) : Result := storeAt s.de (s.reg .a) s

/-- LD D,d8: 16 (R401). -/
def execLdDImm8 (n : Byte) (s : State) : Result := loadImm .d n s

/-- LD A,(DE): 1A (R406). -/
def execLdAAtDE (s : State) : Result := loadAt .a s.de s

/-- LD E,d8: 1E (R401). -/
def execLdEImm8 (n : Byte) (s : State) : Result := loadImm .e n s

/-- LD (HL+),A: 22 (R416). -/
def execLdAtHLIncA (s : State) : Result := storeStep 1 s

/-- LD H,d8: 26 (R401). -/
def execLdHImm8 (n : Byte) (s : State) : Result := loadImm .h n s

/-- LD A,(HL+): 2A (R415). -/
def execLdAAtHLInc (s : State) : Result := loadStep 1 s

/-- LD L,d8: 2E (R401). -/
def execLdLImm8 (n : Byte) (s : State) : Result := loadImm .l n s

/-- LD (HL-),A: 32 (R418). -/
def execLdAtHLDecA (s : State) : Result := storeStep (-1) s

/-- LD (HL),d8: 36 (R404). -/
def execLdAtHLImm8 (n : Byte) (s : State) : Result := storeAt s.hl n s

/-- LD A,(HL-): 3A (R417). -/
def execLdAAtHLDec (s : State) : Result := loadStep (-1) s

/-- LD A,d8: 3E (R401). -/
def execLdAImm8 (n : Byte) (s : State) : Result := loadImm .a n s

/-- LD B,B: 40 (R400). -/
def execLdBB (s : State) : Result := loadReg .b .b s

/-- LD B,C: 41 (R400). -/
def execLdBC (s : State) : Result := loadReg .b .c s

/-- LD B,D: 42 (R400). -/
def execLdBD (s : State) : Result := loadReg .b .d s

/-- LD B,E: 43 (R400). -/
def execLdBE (s : State) : Result := loadReg .b .e s

/-- LD B,H: 44 (R400). -/
def execLdBH (s : State) : Result := loadReg .b .h s

/-- LD B,L: 45 (R400). -/
def execLdBL (s : State) : Result := loadReg .b .l s

/-- LD B,(HL): 46 (R402). -/
def execLdBAtHL (s : State) : Result := loadAt .b s.hl s

/-- LD B,A: 47 (R400). -/
def execLdBA (s : State) : Result := loadReg .b .a s

/-- LD C,B: 48 (R400). -/
def execLdCB (s : State) : Result := loadReg .c .b s

/-- LD C,C: 49 (R400). -/
def execLdCC (s : State) : Result := loadReg .c .c s

/-- LD C,D: 4A (R400). -/
def execLdCD (s : State) : Result := loadReg .c .d s

/-- LD C,E: 4B (R400). -/
def execLdCE (s : State) : Result := loadReg .c .e s

/-- LD C,H: 4C (R400). -/
def execLdCH (s : State) : Result := loadReg .c .h s

/-- LD C,L: 4D (R400). -/
def execLdCL (s : State) : Result := loadReg .c .l s

/-- LD C,(HL): 4E (R402). -/
def execLdCAtHL (s : State) : Result := loadAt .c s.hl s

/-- LD C,A: 4F (R400). -/
def execLdCA (s : State) : Result := loadReg .c .a s

/-- LD D,B: 50 (R400). -/
def execLdDB (s : State) : Result := loadReg .d .b s

/-- LD D,C: 51 (R400). -/
def execLdDC (s : State) : Result := loadReg .d .c s

/-- LD D,D: 52 (R400). -/
def execLdDD (s : State) : Result := loadReg .d .d s

/-- LD D,E: 53 (R400). -/
def execLdDE (s : State) : Result := loadReg .d .e s

/-- LD D,H: 54 (R400). -/
def execLdDH (s : State) : Result := loadReg .d .h s

/-- LD D,L: 55 (R400). -/
def execLdDL (s : State) : Result := loadReg .d .l s

/-- LD D,(HL): 56 (R402). -/
def execLdDAtHL (s : State) : Result := loadAt .d s.hl s

/-- LD D,A: 57 (R400). -/
def execLdDA (s : State) : Result := loadReg .d .a s

/-- LD E,B: 58 (R400). -/
def execLdEB (s : State) : Result := loadReg .e .b s

/-- LD E,C: 59 (R400). -/
def execLdEC (s : State) : Result := loadReg .e .c s

/-- LD E,D: 5A (R400). -/
def execLdED (s : State) : Result := loadReg .e .d s

/-- LD E,E: 5B (R400). -/
def execLdEE (s : State) : Result := loadReg .e .e s

/-- LD E,H: 5C (R400). -/
def execLdEH (s : State) : Result := loadReg .e .h s

/-- LD E,L: 5D (R400). -/
def execLdEL (s : State) : Result := loadReg .e .l s

/-- LD E,(HL): 5E (R402). -/
def execLdEAtHL (s : State) : Result := loadAt .e s.hl s

/-- LD E,A: 5F (R400). -/
def execLdEA (s : State) : Result := loadReg .e .a s

/-- LD H,B: 60 (R400). -/
def execLdHB (s : State) : Result := loadReg .h .b s

/-- LD H,C: 61 (R400). -/
def execLdHC (s : State) : Result := loadReg .h .c s

/-- LD H,D: 62 (R400). -/
def execLdHD (s : State) : Result := loadReg .h .d s

/-- LD H,E: 63 (R400). -/
def execLdHE (s : State) : Result := loadReg .h .e s

/-- LD H,H: 64 (R400). -/
def execLdHH (s : State) : Result := loadReg .h .h s

/-- LD H,L: 65 (R400). -/
def execLdHL (s : State) : Result := loadReg .h .l s

/-- LD H,(HL): 66 (R402). -/
def execLdHAtHL (s : State) : Result := loadAt .h s.hl s

/-- LD H,A: 67 (R400). -/
def execLdHA (s : State) : Result := loadReg .h .a s

/-- LD L,B: 68 (R400). -/
def execLdLB (s : State) : Result := loadReg .l .b s

/-- LD L,C: 69 (R400). -/
def execLdLC (s : State) : Result := loadReg .l .c s

/-- LD L,D: 6A (R400). -/
def execLdLD (s : State) : Result := loadReg .l .d s

/-- LD L,E: 6B (R400). -/
def execLdLE (s : State) : Result := loadReg .l .e s

/-- LD L,H: 6C (R400). -/
def execLdLH (s : State) : Result := loadReg .l .h s

/-- LD L,L: 6D (R400). -/
def execLdLL (s : State) : Result := loadReg .l .l s

/-- LD L,(HL): 6E (R402). -/
def execLdLAtHL (s : State) : Result := loadAt .l s.hl s

/-- LD L,A: 6F (R400). -/
def execLdLA (s : State) : Result := loadReg .l .a s

/-- LD (HL),B: 70 (R403). -/
def execLdAtHLB (s : State) : Result := storeAt s.hl (s.reg .b) s

/-- LD (HL),C: 71 (R403). -/
def execLdAtHLC (s : State) : Result := storeAt s.hl (s.reg .c) s

/-- LD (HL),D: 72 (R403). -/
def execLdAtHLD (s : State) : Result := storeAt s.hl (s.reg .d) s

/-- LD (HL),E: 73 (R403). -/
def execLdAtHLE (s : State) : Result := storeAt s.hl (s.reg .e) s

/-- LD (HL),H: 74 (R403). -/
def execLdAtHLH (s : State) : Result := storeAt s.hl (s.reg .h) s

/-- LD (HL),L: 75 (R403). -/
def execLdAtHLL (s : State) : Result := storeAt s.hl (s.reg .l) s

/-- LD (HL),A: 77 (R403). -/
def execLdAtHLA (s : State) : Result := storeAt s.hl (s.reg .a) s

/-- LD A,B: 78 (R400). -/
def execLdAB (s : State) : Result := loadReg .a .b s

/-- LD A,C: 79 (R400). -/
def execLdAC (s : State) : Result := loadReg .a .c s

/-- LD A,D: 7A (R400). -/
def execLdAD (s : State) : Result := loadReg .a .d s

/-- LD A,E: 7B (R400). -/
def execLdAE (s : State) : Result := loadReg .a .e s

/-- LD A,H: 7C (R400). -/
def execLdAH (s : State) : Result := loadReg .a .h s

/-- LD A,L: 7D (R400). -/
def execLdAL (s : State) : Result := loadReg .a .l s

/-- LD A,(HL): 7E (R402). -/
def execLdAAtHL (s : State) : Result := loadAt .a s.hl s

/-- LD A,A: 7F (R400). -/
def execLdAA (s : State) : Result := loadReg .a .a s

/-- LDH (a8),A: E0 (R414). -/
def execLdhAtA8A (n : Byte) (s : State) : Result := storeAt (highPage n) (s.reg .a) s

/-- LD (C),A: E2 (R412). -/
def execLdAtCA (s : State) : Result := storeAt (highPage (s.reg .c)) (s.reg .a) s

/-- LD (a16),A: EA (R410). -/
def execLdAtA16A (nn : Word) (s : State) : Result := storeAt nn (s.reg .a) s

/-- LDH A,(a8): F0 (R413). -/
def execLdhAAtA8 (n : Byte) (s : State) : Result := loadAt .a (highPage n) s

/-- LD A,(C): F2 (R411). -/
def execLdAAtC (s : State) : Result := loadAt .a (highPage (s.reg .c)) s

/-- LD A,(a16): FA (R409). -/
def execLdAAtA16 (nn : Word) (s : State) : Result := loadAt .a nn s

end Sys2Proof.Machine
end

