-- ==== Sys2Proof/Machine/RotateShift.lean ====
section
/-! DEFINITION. Rotates, shifts and SWAP (44_rotate_shift_bit R650 to R675). -/

namespace Sys2Proof.Machine

/-- RLCA, RRCA, RLA, RRA: A rotated, C the bit shifted out, Z, N and H cleared (R650 to R653). -/
def rotateA (op : RotOp) (s : State) : Result :=
  let r := rotShift op (s.reg .a) s.flags.c
  done ((s.setReg .a r.1).setFlags ⟨false, false, false, r.2⟩)

/-- The register form of a CB rotate, shift or SWAP (R655, R659). -/
def rotateReg (op : RotOp) (r : Reg8) (s : State) : Result :=
  let p := rotResult op (s.reg r) s.flags.c
  done ((s.setReg r p.1).setFlags p.2)

/-- The (HL) form: a read, a write, then the flags (R655, R659, R661). -/
def rotateAtHL (op : RotOp) (s : State) : Result := s.modifyAtHL fun v => rotResult op v s.flags.c

/-- RLCA: 07 (R650). -/
def execRlca (s : State) : Result := rotateA .rlc s

/-- RRCA: 0F (R651). -/
def execRrca (s : State) : Result := rotateA .rrc s

/-- RLA: 17 (R652). -/
def execRla (s : State) : Result := rotateA .rl s

/-- RRA: 1F (R653). -/
def execRra (s : State) : Result := rotateA .rr s

/-- RLC B: CB 00 (R660). -/
def execRlcB (s : State) : Result := rotateReg .rlc .b s

/-- RLC C: CB 01 (R660). -/
def execRlcC (s : State) : Result := rotateReg .rlc .c s

/-- RLC D: CB 02 (R660). -/
def execRlcD (s : State) : Result := rotateReg .rlc .d s

/-- RLC E: CB 03 (R660). -/
def execRlcE (s : State) : Result := rotateReg .rlc .e s

/-- RLC H: CB 04 (R660). -/
def execRlcH (s : State) : Result := rotateReg .rlc .h s

/-- RLC L: CB 05 (R660). -/
def execRlcL (s : State) : Result := rotateReg .rlc .l s

/-- RLC (HL): CB 06 (R661). -/
def execRlcAtHL (s : State) : Result := rotateAtHL .rlc s

/-- RLC A: CB 07 (R660). -/
def execRlcA (s : State) : Result := rotateReg .rlc .a s

/-- RRC B: CB 08 (R662). -/
def execRrcB (s : State) : Result := rotateReg .rrc .b s

/-- RRC C: CB 09 (R662). -/
def execRrcC (s : State) : Result := rotateReg .rrc .c s

/-- RRC D: CB 0A (R662). -/
def execRrcD (s : State) : Result := rotateReg .rrc .d s

/-- RRC E: CB 0B (R662). -/
def execRrcE (s : State) : Result := rotateReg .rrc .e s

/-- RRC H: CB 0C (R662). -/
def execRrcH (s : State) : Result := rotateReg .rrc .h s

/-- RRC L: CB 0D (R662). -/
def execRrcL (s : State) : Result := rotateReg .rrc .l s

/-- RRC (HL): CB 0E (R663). -/
def execRrcAtHL (s : State) : Result := rotateAtHL .rrc s

/-- RRC A: CB 0F (R662). -/
def execRrcA (s : State) : Result := rotateReg .rrc .a s

/-- RL B: CB 10 (R664). -/
def execRlB (s : State) : Result := rotateReg .rl .b s

/-- RL C: CB 11 (R664). -/
def execRlC (s : State) : Result := rotateReg .rl .c s

/-- RL D: CB 12 (R664). -/
def execRlD (s : State) : Result := rotateReg .rl .d s

/-- RL E: CB 13 (R664). -/
def execRlE (s : State) : Result := rotateReg .rl .e s

/-- RL H: CB 14 (R664). -/
def execRlH (s : State) : Result := rotateReg .rl .h s

/-- RL L: CB 15 (R664). -/
def execRlL (s : State) : Result := rotateReg .rl .l s

/-- RL (HL): CB 16 (R665). -/
def execRlAtHL (s : State) : Result := rotateAtHL .rl s

/-- RL A: CB 17 (R664). -/
def execRlA (s : State) : Result := rotateReg .rl .a s

/-- RR B: CB 18 (R666). -/
def execRrB (s : State) : Result := rotateReg .rr .b s

/-- RR C: CB 19 (R666). -/
def execRrC (s : State) : Result := rotateReg .rr .c s

/-- RR D: CB 1A (R666). -/
def execRrD (s : State) : Result := rotateReg .rr .d s

/-- RR E: CB 1B (R666). -/
def execRrE (s : State) : Result := rotateReg .rr .e s

/-- RR H: CB 1C (R666). -/
def execRrH (s : State) : Result := rotateReg .rr .h s

/-- RR L: CB 1D (R666). -/
def execRrL (s : State) : Result := rotateReg .rr .l s

/-- RR (HL): CB 1E (R667). -/
def execRrAtHL (s : State) : Result := rotateAtHL .rr s

/-- RR A: CB 1F (R666). -/
def execRrA (s : State) : Result := rotateReg .rr .a s

/-- SLA B: CB 20 (R668). -/
def execSlaB (s : State) : Result := rotateReg .sla .b s

/-- SLA C: CB 21 (R668). -/
def execSlaC (s : State) : Result := rotateReg .sla .c s

/-- SLA D: CB 22 (R668). -/
def execSlaD (s : State) : Result := rotateReg .sla .d s

/-- SLA E: CB 23 (R668). -/
def execSlaE (s : State) : Result := rotateReg .sla .e s

/-- SLA H: CB 24 (R668). -/
def execSlaH (s : State) : Result := rotateReg .sla .h s

/-- SLA L: CB 25 (R668). -/
def execSlaL (s : State) : Result := rotateReg .sla .l s

/-- SLA (HL): CB 26 (R669). -/
def execSlaAtHL (s : State) : Result := rotateAtHL .sla s

/-- SLA A: CB 27 (R668). -/
def execSlaA (s : State) : Result := rotateReg .sla .a s

/-- SRA B: CB 28 (R670). -/
def execSraB (s : State) : Result := rotateReg .sra .b s

/-- SRA C: CB 29 (R670). -/
def execSraC (s : State) : Result := rotateReg .sra .c s

/-- SRA D: CB 2A (R670). -/
def execSraD (s : State) : Result := rotateReg .sra .d s

/-- SRA E: CB 2B (R670). -/
def execSraE (s : State) : Result := rotateReg .sra .e s

/-- SRA H: CB 2C (R670). -/
def execSraH (s : State) : Result := rotateReg .sra .h s

/-- SRA L: CB 2D (R670). -/
def execSraL (s : State) : Result := rotateReg .sra .l s

/-- SRA (HL): CB 2E (R671). -/
def execSraAtHL (s : State) : Result := rotateAtHL .sra s

/-- SRA A: CB 2F (R670). -/
def execSraA (s : State) : Result := rotateReg .sra .a s

/-- SWAP B: CB 30 (R672). -/
def execSwapB (s : State) : Result := rotateReg .swap .b s

/-- SWAP C: CB 31 (R672). -/
def execSwapC (s : State) : Result := rotateReg .swap .c s

/-- SWAP D: CB 32 (R672). -/
def execSwapD (s : State) : Result := rotateReg .swap .d s

/-- SWAP E: CB 33 (R672). -/
def execSwapE (s : State) : Result := rotateReg .swap .e s

/-- SWAP H: CB 34 (R672). -/
def execSwapH (s : State) : Result := rotateReg .swap .h s

/-- SWAP L: CB 35 (R672). -/
def execSwapL (s : State) : Result := rotateReg .swap .l s

/-- SWAP (HL): CB 36 (R673). -/
def execSwapAtHL (s : State) : Result := rotateAtHL .swap s

/-- SWAP A: CB 37 (R672). -/
def execSwapA (s : State) : Result := rotateReg .swap .a s

/-- SRL B: CB 38 (R674). -/
def execSrlB (s : State) : Result := rotateReg .srl .b s

/-- SRL C: CB 39 (R674). -/
def execSrlC (s : State) : Result := rotateReg .srl .c s

/-- SRL D: CB 3A (R674). -/
def execSrlD (s : State) : Result := rotateReg .srl .d s

/-- SRL E: CB 3B (R674). -/
def execSrlE (s : State) : Result := rotateReg .srl .e s

/-- SRL H: CB 3C (R674). -/
def execSrlH (s : State) : Result := rotateReg .srl .h s

/-- SRL L: CB 3D (R674). -/
def execSrlL (s : State) : Result := rotateReg .srl .l s

/-- SRL (HL): CB 3E (R675). -/
def execSrlAtHL (s : State) : Result := rotateAtHL .srl s

/-- SRL A: CB 3F (R674). -/
def execSrlA (s : State) : Result := rotateReg .srl .a s

end Sys2Proof.Machine
end

