-- ==== Sys2Proof/Machine/System.lean ====
section
/-! DEFINITION. System instructions (46_system R750 to R765). None writes a flag. -/

namespace Sys2Proof.Machine

/-- HALT: `HALTED <- 1` (R751). -/
def enterHalt (s : State) : Result := done { s with halted := true }

/-- DI: IME and EI_PENDING cleared (R754). -/
def disable (s : State) : Result := done { s with ime := false, eiPending := false }

/-- EI: IME set at once with `EI_DELAY = 0`, else EI_PENDING set (R755). -/
def enable (s : State) : Result := done (if s.cfg.eiDelay then { s with eiPending := true } else { s with ime := true })

/-- STOP: the prepared speed switch in color mode, else StopWithoutSpeedPrep at the address of the STOP opcode, two bytes
before PC (R760, R804). The byte after the opcode is ignored whatever its value. -/
def speedSwitch (s : State) : Result :=
  if s.colorMode && s.speedPrep then done { s with doubleSpeed := !s.doubleSpeed, speedPrep := false }
  else (Run.err (.stopWithoutSpeedPrep (s.regs.pc - 2)) s).result

/-- An opcode byte without an instruction raises InvalidInstruction (R765, R802). -/
def raiseInvalid (op : Byte) (s : State) : Result := (Run.err (.invalidInstruction op) s).result

/-- NOP: 00 (R750). -/
def execNop (s : State) : Result := done s

/-- STOP: 10 (R760). -/
def execStop (_u : Byte) (s : State) : Result := speedSwitch s

/-- HALT: 76 (R751). -/
def execHalt (s : State) : Result := enterHalt s

/-- INVALID: the bytes of R340 (R765). -/
def execInvalid (op : Byte) (s : State) : Result := raiseInvalid op s

/-- DI: F3 (R754). -/
def execDi (s : State) : Result := disable s

/-- EI: FB (R755). -/
def execEi (s : State) : Result := enable s

end Sys2Proof.Machine
end

