-- ==== Sys2Proof/Machine/Pump.lean ====
section
/-! DEFINITION. Advancing the devices to a cycle value, and the next peripheral event (60_exceptions R812, R813). -/

namespace Sys2Proof.Machine

/-- The least cycle value above `t` at which the timer increments, none while it is stopped (R813, R843). -/
def State.nextTimerEvent (s : State) (t : Nat) : Option Nat :=
  if s.timer.running then some (edgeAfter s.timer.nextTick (tacPeriod s.timer.tac) t) else none

/-- The least cycle value above `t` at which the audio synthesizer has an edge (R813, R953). -/
def State.nextAudioEvent (s : State) (t : Nat) : Nat :=
  min (min (edgeAfter s.audio.nextSample (samplePeriod s.cfg) t) (edgeAfter s.audio.nextLength 16384 t))
    (min (edgeAfter s.audio.nextEnvelope 65536 t) (edgeAfter s.audio.nextSweep 32768 t))

/-- `next_event(t)`: the least cycle value above `t` at which any device has an event (R813). -/
def State.nextEvent (s : State) (t : Nat) : Nat :=
  min (s.nextAudioEvent t) (min ((s.nextVideoEvent t).getD (s.nextAudioEvent t)) ((s.nextTimerEvent t).getD (s.nextAudioEvent t)))

/-- The audio part of the pump, in the state. -/
def State.audioPump (s : State) (t : Nat) : State := { s with audio := s.audio.pump s.cfg t }

/-- `pump(t)`: video, then timer, then audio (R812). A device event makes the unspecified register bits new draws (R273,
log 5). -/
def State.pump (s : State) (t : Nat) : State :=
  let event := decide (s.nextEvent s.lastPump ≤ t)
  let s1 := ((s.videoPump t).timerPump t).audioPump t
  { s1 with lastPump := t, draw := if event then s1.draw + 1 else s1.draw }

end Sys2Proof.Machine
end

