-- ==== Sys2Proof/Machine/Timing.lean ====
section
/-! DEFINITION. Instruction costs in base cycles (70_reset_and_hazards R1030, 60_exceptions R811). -/

namespace Sys2Proof.Machine

/-- One row of R1030: (taken, not taken) for the sixteen low nibbles; invalid bytes and the CB byte have no cost of their own. -/
def costRow : Nat → List (Nat × Nat)
  | 0x0 => [(4, 4), (12, 12), (8, 8), (8, 8), (4, 4), (4, 4), (8, 8), (4, 4), (20, 20), (8, 8), (8, 8), (8, 8), (4, 4), (4, 4), (8, 8), (4, 4)]
  | 0x1 => [(4, 4), (12, 12), (8, 8), (8, 8), (4, 4), (4, 4), (8, 8), (4, 4), (12, 12), (8, 8), (8, 8), (8, 8), (4, 4), (4, 4), (8, 8), (4, 4)]
  | 0x2 => [(12, 8), (12, 12), (8, 8), (8, 8), (4, 4), (4, 4), (8, 8), (4, 4), (12, 8), (8, 8), (8, 8), (8, 8), (4, 4), (4, 4), (8, 8), (4, 4)]
  | 0x3 => [(12, 8), (12, 12), (8, 8), (8, 8), (12, 12), (12, 12), (12, 12), (4, 4), (12, 8), (8, 8), (8, 8), (8, 8), (4, 4), (4, 4), (8, 8), (4, 4)]
  | 0x7 => [(8, 8), (8, 8), (8, 8), (8, 8), (8, 8), (8, 8), (4, 4), (8, 8), (4, 4), (4, 4), (4, 4), (4, 4), (4, 4), (4, 4), (8, 8), (4, 4)]
  | 0xC => [(20, 8), (12, 12), (16, 12), (16, 16), (24, 12), (16, 16), (8, 8), (16, 16), (20, 8), (16, 16), (16, 12), (0, 0), (24, 12), (24, 24), (8, 8), (16, 16)]
  | 0xD => [(20, 8), (12, 12), (16, 12), (0, 0), (24, 12), (16, 16), (8, 8), (16, 16), (20, 8), (16, 16), (16, 12), (0, 0), (24, 12), (0, 0), (8, 8), (16, 16)]
  | 0xE => [(12, 12), (12, 12), (8, 8), (0, 0), (0, 0), (16, 16), (8, 8), (16, 16), (16, 16), (4, 4), (16, 16), (0, 0), (0, 0), (0, 0), (8, 8), (16, 16)]
  | 0xF => [(12, 12), (12, 12), (8, 8), (4, 4), (0, 0), (16, 16), (8, 8), (16, 16), (12, 12), (8, 8), (16, 16), (4, 4), (0, 0), (0, 0), (8, 8), (16, 16)]
  | _ => [(4, 4), (4, 4), (4, 4), (4, 4), (4, 4), (4, 4), (8, 8), (4, 4), (4, 4), (4, 4), (4, 4), (4, 4), (4, 4), (4, 4), (8, 8), (4, 4)]

/-- The default cost of an unprefixed opcode: (taken, not taken) (R1030). -/
def primaryCost (o : Byte) : Nat × Nat := (costRow (o.toNat / 16)).getD (o.toNat % 16) (0, 0)

/-- The default cost of a CB instruction by its second byte: 8 on a register, 12 for BIT b,(HL), 16 else (R1030). -/
def cbCost (o : Byte) : Nat × Nat :=
  match regOf (fieldZ o), fieldX o with
  | some _, _ => (8, 8)
  | none, 1 => (12, 12)
  | none, _ => (16, 16)

/-- `CYCLE_COST`: the parameter's entry, or R1030's (R811). -/
def costPair (cfg : Config) (i : Instr) : Nat × Nat :=
  match encode i with
  | o :: n :: _ =>
    if o = 0xCB then lookupD (0xCB00 + n.toNat) (cbCost n) cfg.cycleCost
    else lookupD o.toNat (primaryCost o) cfg.cycleCost
  | o :: [] => lookupD o.toNat (primaryCost o) cfg.cycleCost
  | [] => (0, 0)

/-- The condition of a conditional jump, call or return, by its opcode byte (30_encoding R314, R330, R333). -/
def conditionOf (o : Byte) : Option Cond :=
  let m := o &&& 0xE7
  if m = 0x20 ∨ m = 0xC0 ∨ m = 0xC2 ∨ m = 0xC4 then some (fieldC o) else none

/-- The instruction's condition holds; an unconditional one is always taken (45_control R700). -/
def State.takes (s : State) (i : Instr) : Bool :=
  match encode i with
  | o :: _ =>
    match conditionOf o with
    | some cc => s.cond cc
    | none => true
  | [] => true

/-- The cost of an instruction executed in state `s`, PC past it (R811). -/
def State.cost (s : State) (i : Instr) : Nat :=
  if s.takes i then (costPair s.cfg i).1 else (costPair s.cfg i).2

end Sys2Proof.Machine
end

