-- ==== Sys2Proof/Machine/Cycle.lean ====
section
/-! DEFINITION. The processor step, `run_cycle` (60_exceptions R810), phase by phase: breakpoint, halted, interrupt dispatch,
fetch and execute, cost, pump. -/

namespace Sys2Proof.Machine

/-- PC is a breakpoint of a running processor (R810 phase 1, R871). -/
def State.atBreakpoint (s : State) : Bool := !s.halted && s.breakpoints.contains s.regs.pc

/-- The breakpoint is removed, DEBUG_HALT set, nothing else changed (R871). -/
def State.takeBreakpoint (s : State) : State :=
  { s with
    breakpoints := s.breakpoints.filter (· ≠ s.regs.pc)
    debugHalt := true
    stepResult := .breakpoint s.regs.pc }

/-- A halted processor with nothing pending: CYCLES goes to the next device event, not halved in double speed, and the
devices are pumped there (R810 phase 2, R813). -/
def State.fastForward (s : State) : State :=
  let t := s.nextEvent s.cycles
  { s with cycles := t, stepResult := .ok }.pump t

/-- `if ei = 1 and EI_PENDING = 1: IME <- 1; EI_PENDING <- 0`, where `ei` is EI_PENDING before the fetch (R810 phase 4, R1020). -/
def State.settleEi (s : State) (ei : Bool) : State := if ei && s.eiPending then { s with ime := true, eiPending := false } else s

/-- Phases 5 and 6: the cost is halved if DOUBLE_SPEED is 1 now, added to CYCLES, and the devices are pumped (R810, R811,
R812); `r` is what the step returns. The spec's own costs halve exactly; of an odd total, which other values of `CYCLE_COST`
and `INT_DISPATCH_CYCLES` admit, the half is rounded down (DESIGN CHOICE, log 24, unsafe). -/
def State.charge (s : State) (total : Nat) (r : StepResult) : State :=
  let t := s.cycles + (if s.doubleSpeed then total / 2 else total)
  { s with cycles := t, stepResult := r }.pump t

/-- One instruction, executed in the state `s` with PC past it: a raised error ends the step at once (R806); else the pending
EI is settled and the cost, with `extra` for a dispatch, is charged (R810 phases 4 to 6). -/
def State.execute (s : State) (ei : Bool) (extra : Nat) (i : Instr) : Result :=
  match exec i s with
  | .next s1 => .next (if s1.fault.isSome then s1 else (s1.settleEi ei).charge (extra + s.cost i) .ok)
  | .fault f => .fault f
  | .refused r => .refused r

/-- Phases 4 to 6 (R810). A fetched instruction always decodes; the branch for bytes that do not raises their error kind. -/
def State.executeNext (s : State) (extra : Nat) : Result :=
  match s.fetchInstr with
  | .err e s1 => .next (s1.raise e)
  | .ok bytes s1 =>
    match decode bytes with
    | .ok (i, _) => s1.execute s.eiPending extra i
    | .error _ => .next (s1.raise (.invalidInstruction (bytes.headD 0)))

/-- An interrupt-breakpoint on kind `k`: it is removed, DEBUG_HALT set, no instruction executed, the dispatch cost charged
(R810, R872). -/
def State.takeIntBreakpoint (s : State) (k : IntKind) : State :=
  { s with intBreakpoints := s.intBreakpoints.filter (· ≠ k), debugHalt := true }.charge s.cfg.intDispatchCycles
    (.interruptBreakpoint k)

/-- Phases 3 to 6: the dispatch of a serviceable kind, then the instruction (R810, R825, R829). -/
def State.serviceAndExecute (s : State) : Result :=
  match s.serviceable with
  | none => s.executeNext 0
  | some k =>
    match s.dispatch k with
    | .err e s1 => .next (s1.raise e)
    | .ok s1 =>
      if s1.intBreakpoints.contains k then .next (s1.takeIntBreakpoint k)
      else s1.executeNext s1.cfg.intDispatchCycles

/-- `run_cycle` (R810). A faulted state has no step (R806, R810). -/
def State.runCycle (s : State) : Result :=
  match s.fault with
  | some e => .fault (.faulted e)
  | none =>
    if s.atBreakpoint then .next s.takeBreakpoint
    else if s.halted && decide (s.pending = 0) then .next s.fastForward
    else { s with halted := false }.serviceAndExecute

/-- The address the next step fetches from: a serviceable kind's vector, else PC (R810, R825). -/
def State.fetchAddress (s : State) : Word :=
  match s.serviceable with
  | some k => k.vector
  | none => s.regs.pc

/-- The byte behind address `a` replaced, whatever owns it: the ROM image's byte, a memory's byte, or IE. Not a bus write. -/
def State.poke (s : State) (a : Word) (v : Byte) : State :=
  match s.target a with
  | .rom =>
    match s.cart.romOffset s.cfg a.toNat with
    | some off => { s with cart := { s.cart with rom := s.cart.rom.write off v } }
    | none => s
  | .mem i off => s.setMem i ((s.mem i).write off v)
  | .ie => { s with ie := v }
  | _ => s

/-- The bytes replaced from address `a` on. -/
def State.pokeAll (s : State) (a : Word) : List Byte → State
  | [] => s
  | b :: t => (s.poke a b).pokeAll (a + 1) t

/-- What else a step needs to fetch at once: no FAULT, not halted, and no breakpoint, interrupt-breakpoint or watchpoint in
the way of `n` bytes at `a`. -/
def State.readyToFetch (s : State) (a : Word) (n : Nat) : State :=
  { s with
    fault := none
    halted := false
    breakpoints := s.breakpoints.filter (· ≠ s.regs.pc)
    intBreakpoints := s.intBreakpoints.filter fun k => decide (s.serviceable ≠ some k)
    watchpoints := s.watchpoints.filter fun w => decide (n ≤ (w - a).toNat) && decide (n ≤ (w - s.effective a).toNat) }

/-- The bytes `bs` placed where the next step fetches, and the state made ready to fetch them (log 3). -/
def State.place (s : State) (bs : List Byte) : State :=
  (s.readyToFetch s.fetchAddress bs.length).pokeAll s.fetchAddress bs

end Sys2Proof.Machine
end

