-- ==== Sys2Proof/Machine/Step.lean ====
section
/-! DEFINITION. The step: `run_cycle` (60_exceptions R810), and the placing of an instruction where it fetches. -/

namespace Sys2Proof.Machine

/-- One step of the machine (R810). -/
def step (s : State) : Host.Outcome State Fault Refusal := s.runCycle

/-- `s` with the instruction of a word of spec/opcode_table.json stored where `step` fetches next. It stands for the load of
a ROM image (log 3): a program comes to run because the image was given at construction (70_reset_and_hazards R1000). -/
def State.withFetchWord (s : State) (nbits w : Nat) : State := s.place (tableBytes nbits w)

end Sys2Proof.Machine
end

