-- ==== Sys2Proof/Machine/HostOps.lean ====
section
/-! DEFINITION. The host's operations: construction (70_reset_and_hazards R1000 to R1004, 20_memory R230 to R232, 10_state
R150), the public surface and the debug facade (60_exceptions R870 to R882). Each happens between steps (log 20). -/

namespace Sys2Proof.Machine

/-- What the cartridge header gives (20_memory R230, R231). -/
structure Header where
  controller : BankController
  romBanks : Nat
  ramSize : Nat
  colorCapable : Bool
  deriving DecidableEq, Repr

/-- The bank controller of a cartridge-type byte, with its reset registers; none for an unsupported byte (R230, R241, R250). -/
def controllerOf (kind : Byte) : Option BankController :=
  if [0x00, 0x08, 0x09].contains kind then some .direct
  else if [0x01, 0x02, 0x03].contains kind then some (.mbc1 ⟨false, 1, 0, false⟩)
  else if [0x19, 0x1A, 0x1B, 0x1C, 0x1D, 0x1E].contains kind then some (.mbc5 ⟨false, 1, 0, 0⟩)
  else none

/-- The number of 16 KiB ROM banks of a ROM-size code (R231). -/
def romBanksOf (code : Byte) : Option Nat := if code.toNat ≤ 8 then some (2 * 2 ^ code.toNat) else none

/-- The external RAM size of a RAM-size code, in bytes (R231). -/
def ramSizeOf (code : Byte) : Option Nat :=
  match code.toNat with
  | 0 => some 0
  | 1 => some 0x800
  | 2 => some 0x2000
  | 3 => some 0x8000
  | 4 => some 0x20000
  | 5 => some 0x10000
  | _ => none

/-- The header of a ROM image; none is a load failure (R230, R231, 60_exceptions R807). -/
def decodeHeader (rom : List Byte) : Option Header :=
  if rom.length < 0x150 then none
  else do
    let c ← controllerOf (rom.getD 0x147 0)
    let k ← romBanksOf (rom.getD 0x148 0)
    let n ← ramSizeOf (rom.getD 0x149 0)
    pure ⟨c, k, n, bitAt (rom.getD 0x143 0 : Byte) 7⟩

/-- The title: the bytes 0134 to 0141 before the first NUL (R232). -/
def romTitle (rom : List Byte) : List Byte := ((rom.drop 0x134).take 14).takeWhile (· ≠ 0)

/-- `BOOT_REGS`, the registers after construction in each mode; F's low nibble reads as 0 in every choice (R1001). -/
structure BootRegs where
  mono : Regs
  color : Regs
  deriving DecidableEq, Repr

/-- R1001's default. -/
def BootRegs.standard : BootRegs := ⟨.bootMono, .bootColor⟩

/-- `RESET_IO`, the device registers after construction (R1004). The hardware column's DIV and STAT mode at CYCLES = 0 are a
`div_base` and a `video_base` above 0 (log 25): `div_base` 21760 reads AB. -/
structure ResetIo where
  ie : Byte
  ifr : BitVec 5
  svbk : BitVec 3
  dma : Byte
  hdma1 : Byte
  hdma2 : Byte
  hdma3 : Byte
  hdma4 : Byte
  hdma5 : Byte
  timer : Timer
  input : Input
  video : Video
  audio : Audio
  deriving DecidableEq, Repr

/-- R1004's default. -/
def ResetIo.standard : ResetIo :=
  ⟨0, 0, 0, 0, 0, 0, 0, 0, 0, .reset, .reset, .reset, .reset (samplePeriod .standard)⟩

/-- The parameters of `System::new` that have defaults (00_scope R13). -/
structure Setup where
  cfg : Config
  boot : BootRegs
  io : ResetIo
  deriving DecidableEq, Repr

/-- Every parameter at its default. -/
def Setup.standard : Setup := ⟨.standard, .standard, .standard⟩

/-- The cartridge of a ROM image and its header: the image immutable, external RAM unspecified (R132, R1003). -/
def Cart.insert (rom : List Byte) (h : Header) : Cart where
  rom := (Memory.blank .zero).load 0 rom
  romLength := rom.length
  romBanks := h.romBanks
  ram := .blank (.draw 7)
  ramSize := h.ramSize
  controller := h.controller

/-- `System::new(rom-bytes, audio-sink, allow-color-mode)` (R1000): none is a load failure or a sample rate the sink may not
have (61_video_audio R953); else the machine right after construction. COLOR_MODE: the request and the header's flag (R150). The
first sample-output edge is at `P_s` of the sink's rate (R953, R1004). -/
def construct (rom : List Byte) (setup : Setup) (colorRequested : Bool) : Option State :=
  if setup.cfg.sampleRate = 0 ∨ 4194304 < setup.cfg.sampleRate then none
  else
    (decodeHeader rom).map fun h =>
      { State.reset with
        regs := if colorRequested && h.colorCapable then setup.boot.color else setup.boot.mono
        colorMode := colorRequested && h.colorCapable
        cfg := setup.cfg
        cart := .insert rom h
        ie := setup.io.ie
        ifr := setup.io.ifr
        svbk := setup.io.svbk
        dma := setup.io.dma
        hdma1 := setup.io.hdma1
        hdma2 := setup.io.hdma2
        hdma3 := setup.io.hdma3
        hdma4 := setup.io.hdma4
        hdma5 := setup.io.hdma5
        timer := setup.io.timer
        input := setup.io.input
        video := setup.io.video
        audio := { setup.io.audio with nextSample := samplePeriod setup.cfg } }

/-- `set_mmu_pedantic(bool)` (20_memory R214). -/
def State.setPedantic (s : State) (b : Bool) : State := { s with pedantic := b }

/-- `load_cart_sram(bytes)`: from offset 0, the bytes beyond the RAM size ignored, the rest of the RAM kept (20_memory R254). -/
def State.loadCartSram (s : State) (bs : List Byte) : State :=
  { s with cart := { s.cart with ram := s.cart.ram.load 0 (bs.take s.cart.ramSize) } }

/-- `read_cart_sram()`: the whole external RAM (20_memory R254). -/
def State.readCartSram (s : State) : List Byte := (List.range s.cart.ramSize).map s.cart.ram.read

/-- `activate_button(b)`: pressed, and the Controller interrupt requested whatever was pressed or selected (R851). -/
def State.activateButton (s : State) (button : Button) : State :=
  { s with input := s.input.setButton button true }.request .controller

/-- `deactivate_button(b)`: released; nothing is requested (R851). -/
def State.deactivateButton (s : State) (button : Button) : State :=
  { s with input := s.input.setButton button false }

/-- `pause` (R870). -/
def State.pause (s : State) : State := { s with debugHalt := true }

/-- `resume` (R870). -/
def State.resume (s : State) : State := { s with debugHalt := false }

/-- A host's set as a list without repeats: an element added (log 21). -/
def addTo {α : Type} [DecidableEq α] (x : α) (l : List α) : List α := if x ∈ l then l else x :: l

/-- An element removed. -/
def removeFrom {α : Type} [DecidableEq α] (x : α) (l : List α) : List α := l.filter (· ≠ x)

/-- `add_breakpoint(pc)` (R870, R871). -/
def State.addBreakpoint (s : State) (pc : Word) : State := { s with breakpoints := addTo pc s.breakpoints }

/-- `remove_breakpoint(pc)` (R870). -/
def State.removeBreakpoint (s : State) (pc : Word) : State := { s with breakpoints := removeFrom pc s.breakpoints }

/-- `add_interrupt_breakpoint(k)` (R870, R872). -/
def State.addIntBreakpoint (s : State) (k : IntKind) : State := { s with intBreakpoints := addTo k s.intBreakpoints }

/-- The removal of an interrupt-breakpoint (R870). -/
def State.removeIntBreakpoint (s : State) (k : IntKind) : State :=
  { s with intBreakpoints := removeFrom k s.intBreakpoints }

/-- `add_watchpoint(a)` (R870, R873). -/
def State.addWatchpoint (s : State) (a : Word) : State := { s with watchpoints := addTo a s.watchpoints }

/-- `remove_watchpoint(a)` (R870, R873). -/
def State.removeWatchpoint (s : State) (a : Word) : State := { s with watchpoints := removeFrom a s.watchpoints }

/-- `read_memory(a)`: what a non-pedantic read without watchpoints returns, a draw for disabled external RAM; no state
changes and nothing is raised (R870). -/
def State.readMemory (s : State) (a : Word) : Byte :=
  match { s with pedantic := false, watchpoints := [] }.memRead a with
  | .ok v => v
  | .error _ => Config.freeByte s.draw a.toNat

/-- `step` of the facade: one `run_cycle` whatever DEBUG_HALT is (R874). -/
def State.singleStep (s : State) : Result := step s

/-- `get_framebuffer()`: a pixel of the front buffer's 160 by 144 grid (61_video_audio R928). -/
def State.framebufferPixel (s : State) (x ly : Nat) : Rgb := s.video.front.pixel x ly

/-- The run loop: steps while CYCLES is below the target, DEBUG_HALT is 0 and FAULT is empty, at most `fuel` of them (R880,
R882). A step's other outcomes end it; none arises, since FAULT is empty when it steps. -/
def State.runTo (target : Nat) : Nat → State → State
  | 0, s => s
  | fuel + 1, s =>
    if decide (s.cycles < target) && !s.debugHalt && s.fault.isNone then
      match step s with
      | .next s1 => State.runTo target fuel s1
      | .fault _ => s
      | .refused _ => s
    else s

/-- `run_for_duration(d)`, `d` a number of nanoseconds: the target is `CYCLES + floor(d * 4,194,304 Hz)` (R880). The number of
steps is bounded by `fuel` (log 22). -/
def State.runForDuration (s : State) (nanoseconds fuel : Nat) : State :=
  s.runTo (s.cycles + nanoseconds * 4194304 / 1000000000) fuel

end Sys2Proof.Machine
end

