-- ==== Sys2Proof/Safety.lean ====
section
/-! DEFINITION. What counts as a safe run, in the terms the statements use: the invariant every step keeps, what a bus access
and an instruction leave unchanged, and the operand forms of the instruction set as relations between an instruction and the
address or value it uses. -/

namespace Sys2Proof.Machine

/-- Every memory of the machine is in its canonical form. -/
structure State.MemoriesWf (s : State) : Prop where
  wram : s.wram.wf = true
  hram : s.hram.wf = true
  vram : s.video.vram.wf = true
  oam : s.video.oam.wf = true
  bgPalette : s.video.bgPalette.wf = true
  objPalette : s.video.objPalette.wf = true
  rom : s.cart.rom.wf = true
  extRam : s.cart.ram.wf = true
  wave : s.audio.wave.wf = true

/-- The invariant of the machine. -/
structure State.Inv (s : State) : Prop where
  memories : s.MemoriesWf
  /-- "the low nibble of F is always zero" (10_state R103), as stored. -/
  lowNibble : s.regs.f &&& 0x0F = 0
  /-- DOUBLE_SPEED and SPEED_PREP are 0 forever in monochrome mode (R112). -/
  monochrome : s.colorMode = false → s.doubleSpeed = false ∧ s.speedPrep = false
  /-- MBC1's BANK1 is never 0 (20_memory R242). -/
  bank1 : ∀ r, s.cart.controller = .mbc1 r → r.bank1 ≠ 0
  /-- Between steps the devices stand at the cycle counter (60_exceptions R810 phase 6, R806). -/
  pumped : s.lastPump = s.cycles
  /-- FAULT comes with DEBUG_HALT (R806), unless the host cleared it, which no step does. -/
  halts : s.fault.isSome = true → s.debugHalt = true
  /-- The video timing began at or before now (61_video_audio R910, R916). -/
  started : s.video.videoBase ≤ s.cycles
  /-- With `EI_DELAY = 0` EI_PENDING is always 0 (10_state R110). -/
  noDelay : s.cfg.eiDelay = false → s.eiPending = false

/-- What no step changes: the parameters and mode, the host's pedantic setting and watchpoints, the ROM image and the
header's sizes (10_state R115, R116, R132, 00_scope R13). -/
structure SameSetup (s t : State) : Prop where
  cfg : t.cfg = s.cfg
  colorMode : t.colorMode = s.colorMode
  pedantic : t.pedantic = s.pedantic
  watchpoints : t.watchpoints = s.watchpoints
  rom : t.cart.rom = s.cart.rom
  romLength : t.cart.romLength = s.cart.romLength
  romBanks : t.cart.romBanks = s.cart.romBanks
  ramSize : t.cart.ramSize = s.cart.ramSize

/-- What no bus access changes, whether it succeeds or raises. -/
structure BusKeeps (s t : State) : Prop where
  setup : SameSetup s t
  regs : t.regs = s.regs
  ime : t.ime = s.ime
  eiPending : t.eiPending = s.eiPending
  halted : t.halted = s.halted
  doubleSpeed : t.doubleSpeed = s.doubleSpeed
  cycles : t.cycles = s.cycles
  lastPump : t.lastPump = s.lastPump
  fault : t.fault = s.fault
  debugHalt : t.debugHalt = s.debugHalt
  stepResult : t.stepResult = s.stepResult
  breakpoints : t.breakpoints = s.breakpoints
  intBreakpoints : t.intBreakpoints = s.intBreakpoints

/-- What no instruction changes, whether it completes or raises: cycles and devices stand still (R285, R806). -/
structure ExecKeeps (s t : State) : Prop where
  setup : SameSetup s t
  cycles : t.cycles = s.cycles
  lastPump : t.lastPump = s.lastPump
  breakpoints : t.breakpoints = s.breakpoints
  intBreakpoints : t.intBreakpoints = s.intBreakpoints

/-- Nothing but processor registers differs: every flag and register of the devices, every control bit, and every byte of
memory as the bus reads it. -/
def OnlyRegs (s t : State) : Prop := t = { s with regs := t.regs } ∧ ∀ a, t.memRead a = s.memRead a

/-- The 8-bit registers outside `ds` are unchanged. -/
def KeepsRegs8 (ds : List Reg8) (s t : State) : Prop := ∀ r, r ∉ ds → t.reg r = s.reg r

/-- The 8-bit registers outside `ds`, SP and PC are unchanged. -/
def KeepsRegs (ds : List Reg8) (s t : State) : Prop := KeepsRegs8 ds s t ∧ t.regs.sp = s.regs.sp ∧ t.regs.pc = s.regs.pc

/-- Nothing but processor registers and bytes of the five plain memories differs. -/
def OnlyRegsAndRam (s t : State) : Prop :=
  t = { s with
        regs := t.regs
        wram := t.wram
        hram := t.hram
        cart := { s.cart with ram := t.cart.ram }
        video := { s.video with vram := t.video.vram, oam := t.video.oam } }

/-- Address `a` is unwatched and reaches a byte of work RAM, high RAM, video RAM, OAM or enabled external RAM. -/
def RamAt (s : State) (a : Word) : Prop := s.watchHit a = none ∧ ∃ i off, s.target a = .mem i off

/-- The byte at `a` reads as `v`, and every address that does not reach that byte reads as before. -/
def StoredByte (s t : State) (a : Word) (v : Byte) : Prop :=
  t.memRead a = .ok v ∧ ∀ b, s.target b ≠ s.target a → t.memRead b = s.memRead b

/-- The bytes at `a` and `b` read as `v` and `w`, and every address that reaches neither reads as before. -/
def StoredBytes (s t : State) (a b : Word) (v w : Byte) : Prop :=
  t.memRead a = .ok v ∧ t.memRead b = .ok w ∧
    ∀ c, s.target c ≠ s.target a → s.target c ≠ s.target b → t.memRead c = s.memRead c

/-- A read of `a` completes: unwatched, and a device answers or the unmapped address is tolerated (20_memory R210, R211). -/
def State.Readable (s : State) (a : Word) : Prop :=
  s.watchHit a = none ∧
    match s.target a with
    | .unmapped => s.tolerates a = true
    | .gated => False
    | .rom => s.romByte a ≠ none ∨ s.tolerates a = true
    | _ => True

/-- A write to `a` completes: as for a read, with no DMA copy started by it, which has its own conditions (R210, R260, R261);
a write to 0000-7FFF without a bank controller is an unmapped access (R240). -/
def State.Writable (s : State) (a : Word) : Prop :=
  s.watchHit a = none ∧
    match s.target a with
    | .unmapped => s.tolerates a = true
    | .gated => False
    | .rom => s.cart.controller ≠ .direct ∨ s.tolerates a = true
    | .io r => r ≠ .dma ∧ r ≠ .hdma5
    | _ => True

/-! The encoding fields (30_encoding R310 to R316) and the spelling of an instruction. -/

/-- The field of an 8-bit register (R310). -/
def regCode : Reg8 → Byte
  | .b => 0
  | .c => 1
  | .d => 2
  | .e => 3
  | .h => 4
  | .l => 5
  | .a => 7

/-- The field of a pair of LD, INC, DEC and ADD HL (R311). -/
def pairCode : Pair → Byte
  | .bc => 0
  | .de => 1
  | .hl => 2
  | .sp => 3

/-- The field of a pair of PUSH and POP (R312). -/
def stackPairCode : StackPair → Byte
  | .bc => 0
  | .de => 1
  | .hl => 2
  | .af => 3

/-- The field of a condition (R314). -/
def condCode : Cond → Byte
  | .nz => 0
  | .z => 1
  | .nc => 2
  | .c => 3

/-- The field of an accumulator operation (42_alu8 R500). -/
def aluCode : AluOp → Byte
  | .add => 0
  | .adc => 1
  | .sub => 2
  | .sbc => 3
  | .and => 4
  | .xor => 5
  | .or => 6
  | .cp => 7

/-- The field of a CB rotate, shift or SWAP (30_encoding R334). -/
def rotCode : RotOp → Byte
  | .rlc => 0
  | .rrc => 1
  | .rl => 2
  | .rr => 3
  | .sla => 4
  | .sra => 5
  | .swap => 6
  | .srl => 7

/-- The instruction's bytes, and its taken and not-taken cost under the default cost table. -/
structure Spells (i : Instr) (bs : List Byte) (taken notTaken : Nat) : Prop where
  bytes : encode i = bs
  cost : ∀ cfg : Config, cfg.cycleCost = [] → costPair cfg i = (taken, notTaken)

/-- `cond(c)` on the flags (45_control R700). -/
def condHolds (f : Flags) : Cond → Prop
  | .nz => f.z = false
  | .z => f.z = true
  | .nc => f.c = false
  | .c => f.c = true

/-! The operand forms and the contracts that several instructions share. -/

/-- The loads of one byte into a register without another effect: instruction, destination, address, bytes, cost (40_load8
R402, R405, R406, R409, R411, R413). -/
inductive ByteLoad (s : State) : Instr → Reg8 → Word → List Byte → Nat → Prop where
  | atHL (r : Reg8) : ByteLoad s (ldRegAtHL r) r s.hl [0x46 ||| regCode r <<< 3] 8
  | atBC : ByteLoad s .ldAAtBC .a s.bc [0x0A] 8
  | atDE : ByteLoad s .ldAAtDE .a s.de [0x1A] 8
  | atA16 (nn : Word) : ByteLoad s (.ldAAtA16 nn) .a nn [0xFA, nn.extractLsb' 0 8, nn.extractLsb' 8 8] 16
  | atC : ByteLoad s .ldAAtC .a (0xFF00 + (s.reg .c).setWidth 16) [0xF2] 8
  | atA8 (n : Byte) : ByteLoad s (.ldhAAtA8 n) .a (0xFF00 + n.setWidth 16) [0xF0, n] 12

/-- The stores of one byte without another effect: instruction, address, value, bytes, cost (R403, R404, R407, R408, R410,
R412, R414). -/
inductive ByteStore (s : State) : Instr → Word → Byte → List Byte → Nat → Prop where
  | atHL (r : Reg8) : ByteStore s (ldAtHLReg r) s.hl (s.reg r) [0x70 ||| regCode r] 8
  | atHLImm (n : Byte) : ByteStore s (.ldAtHLImm8 n) s.hl n [0x36, n] 12
  | atBC : ByteStore s .ldAtBCA s.bc (s.reg .a) [0x02] 8
  | atDE : ByteStore s .ldAtDEA s.de (s.reg .a) [0x12] 8
  | atA16 (nn : Word) : ByteStore s (.ldAtA16A nn) nn (s.reg .a) [0xEA, nn.extractLsb' 0 8, nn.extractLsb' 8 8] 16
  | atC : ByteStore s .ldAtCA (0xFF00 + (s.reg .c).setWidth 16) (s.reg .a) [0xE2] 8
  | atA8 (n : Byte) : ByteStore s (.ldhAtA8A n) (0xFF00 + n.setWidth 16) (s.reg .a) [0xE0, n] 12

/-- The three operand forms of an accumulator operation, in a state in which the operand can be read: instruction, operand,
bytes, cost (42_alu8 R500). -/
inductive AluForm (s : State) (op : AluOp) : Instr → Byte → List Byte → Nat → Prop where
  | reg (r : Reg8) : AluForm s op (aluReg op r) (s.reg r) [0x80 ||| aluCode op <<< 3 ||| regCode r] 4
  | atHL (v : Byte) (h : s.memRead s.hl = .ok v) : AluForm s op (aluAtHL op) v [0x86 ||| aluCode op <<< 3] 8
  | imm (n : Byte) : AluForm s op (aluImm op n) n [0xC6 ||| aluCode op <<< 3, n] 8

/-- Instruction `i` reads the byte at (HL), writes `res` of it there, then sets the flags to `fl` of it: what it does when both
accesses complete, when the read raises, when the write raises (no flag written), and, where HL reaches RAM, what every
address reads afterwards. -/
def ModifiesAtHL (i : Instr) (s : State) (res : Byte → Byte) (fl : Byte → Flags) : Prop :=
  (∀ v t, s.memRead s.hl = .ok v → s.memWrite s.hl (res v) = .ok t →
    ∃ u, exec i s = .next u ∧ u.flags = fl v ∧ KeepsRegs [] s u ∧ u = { t with regs := u.regs }) ∧
  (∀ e, s.memRead s.hl = .error e → exec i s = .next (s.raise e)) ∧
  (∀ v e t, s.memRead s.hl = .ok v → s.memWrite s.hl (res v) = .err e t → exec i s = .next (t.raise e)) ∧
  (∀ v, s.MemoriesWf → RamAt s s.hl → s.memRead s.hl = .ok v →
    ∃ u, exec i s = .next u ∧ u.flags = fl v ∧ KeepsRegs [] s u ∧ StoredByte s u s.hl (res v) ∧ OnlyRegsAndRam s u)

/-- Instruction `i` pushes `w` and goes on at `pc`: what it does when both writes complete, when the first raises (SP down by
one), when the second raises (SP down by two), and, where the stack slot is RAM, what every address reads afterwards. -/
def PushesThen (i : Instr) (s : State) (w pc : Word) : Prop :=
  (∀ t u, (s.setSp (s.regs.sp - 1)).memWrite (s.regs.sp - 1) (w.extractLsb' 8 8) = .ok t →
    (t.setSp (s.regs.sp - 2)).memWrite (s.regs.sp - 2) (w.extractLsb' 0 8) = .ok u → exec i s = .next (u.setPc pc)) ∧
  (∀ e t, (s.setSp (s.regs.sp - 1)).memWrite (s.regs.sp - 1) (w.extractLsb' 8 8) = .err e t → exec i s = .next (t.raise e)) ∧
  (∀ t e u, (s.setSp (s.regs.sp - 1)).memWrite (s.regs.sp - 1) (w.extractLsb' 8 8) = .ok t →
    (t.setSp (s.regs.sp - 2)).memWrite (s.regs.sp - 2) (w.extractLsb' 0 8) = .err e u → exec i s = .next (u.raise e)) ∧
  (s.MemoriesWf → RamAt s (s.regs.sp - 1) → RamAt s (s.regs.sp - 2) → s.target (s.regs.sp - 1) ≠ s.target (s.regs.sp - 2) →
    ∃ t, exec i s = .next t ∧ t.regs = { s.regs with sp := s.regs.sp - 2, pc := pc } ∧
      StoredBytes s t (s.regs.sp - 1) (s.regs.sp - 2) (w.extractLsb' 8 8) (w.extractLsb' 0 8) ∧ OnlyRegsAndRam s t)

/-- Instruction `i` pops a word and ends as `k` says: what it does when both reads complete, when the first raises, and when
the second raises (SP up by one). -/
def PopsThen (i : Instr) (s : State) (k : Word → State → Prop) : Prop :=
  (∀ lo hi, s.memRead s.regs.sp = .ok lo → s.memRead (s.regs.sp + 1) = .ok hi →
    ∃ t, exec i s = .next t ∧ t.regs.sp = s.regs.sp + 2 ∧ k (hi ++ lo) t) ∧
  (∀ e, s.memRead s.regs.sp = .error e → exec i s = .next (s.raise e)) ∧
  (∀ lo e, s.memRead s.regs.sp = .ok lo → s.memRead (s.regs.sp + 1) = .error e →
    exec i s = .next ((s.setSp (s.regs.sp + 1)).raise e))

/-- The bit of an interrupt kind in IE and IF, which is its priority too (60_exceptions R820, R824). -/
def IntKind.bit : IntKind → Nat
  | .vblank => 0
  | .videoStatus => 1
  | .timer => 2
  | .controller => 4

/-- The kind is both requested and enabled (R823). -/
def State.IsPending (s : State) (k : IntKind) : Prop := s.ie.getLsbD k.bit = true ∧ s.ifr.getLsbD k.bit = true

/-- The video controller has an event at cycle `n` (61_video_audio R910, R916): a line start, or on lines 0 to 143 the drawing
start or the horizontal-blank start; none while it is frozen. -/
def State.VideoEventAt (s : State) (n : Nat) : Prop :=
  s.lcdFrozen = false ∧ (s.dotAt n = 0 ∨ (s.lineAt n < 144 ∧ (s.dotAt n = 80 ∨ s.dotAt n = 252)))

/-- Some device has an event at cycle `n` (60_exceptions R813): the video controller, an enabled timer's increment (R842, R843),
or an edge of the audio synthesizer's four timers (61_video_audio R953). -/
def State.EventAt (s : State) (n : Nat) : Prop :=
  s.VideoEventAt n ∨
    (s.timer.tac.getLsbD 2 = true ∧
      ∃ k, n = s.timer.nextTick + k * ([1024, 16, 64, 256] : List Nat).getD (s.timer.tac.toNat % 4) 0) ∨
    ∃ k, n = s.audio.nextSample + k * samplePeriod s.cfg ∨ n = s.audio.nextLength + k * 16384 ∨
      n = s.audio.nextEnvelope + k * 65536 ∨ n = s.audio.nextSweep + k * 32768

/-- The run `r` is a copy of `len` bytes from state `s`, byte after byte (20_memory R260, R261): `f k` is the state after `k` bytes,
each read through the bus at `src k` and stored at offset `off k` of memory `i`, whose address is `dst k`. It ends with all of
them, or where a read raises or a destination is watched, with the bytes before it copied. -/
def CopiesBytes (s : State) (r : Run) (len : Nat) (src dst : Nat → Word) (i : MemId) (off : Nat → Nat) : Prop :=
  ∃ (n : Nat) (f : Nat → State), f 0 = s ∧
    (∀ k, k < n → ∃ b, (f k).memRead (src k) = .ok b ∧ dst k ∉ s.watchpoints ∧
      f (k + 1) = (f k).setMem i (((f k).mem i).write (off k) b)) ∧
    ((n = len ∧ r = .ok (f n)) ∨
      (n < len ∧ ∃ e, r = .err e (f n) ∧
        ((f n).memRead (src n) = .error e ∨
          ∃ b, (f n).memRead (src n) = .ok b ∧ dst n ∈ s.watchpoints ∧ e = .busError (dst n))))

/-- A step of `s` reaches its instruction: no FAULT, no breakpoint, not halted, no interrupt to service (R810). -/
structure State.Runs (s : State) : Prop where
  noFault : s.fault = none
  noBreakpoint : s.regs.pc ∉ s.breakpoints
  notHalted : s.halted = false
  noInterrupt : s.ime = false ∨ ∀ k, ¬s.IsPending k

/-- The bytes `bs` are read from address `a` on. -/
def State.BytesAt (s : State) (a : Word) (bs : List Byte) : Prop :=
  ∀ k (h : k < bs.length), s.memRead (a + BitVec.ofNat 16 k) = .ok bs[k]

end Sys2Proof.Machine
end

