-- ==== Sys2Proof/Certificates/Slice0/Obligations.lean ====
section
/-! DEFINITION. The statements about the machine, each from the numbered rules of spec/; none is about a program. `exec i s` runs
with PC past the instruction (10_state R107). -/

open Sys2Proof Sys2Proof.Machine

/-! ## Reset -/

/-- R1001, R1002: the registers after construction in each mode, F's low nibble 0 in every choice; the control state after
construction. -/
def Obligations.BootProcessor : Prop :=
  ((∀ (rom : List Byte) (request : Bool) (s : State), construct rom .standard request = some s →
      (s.colorMode = false →
        s.reg .a = 0x01 ∧ s.flagByte = 0xB0 ∧ s.reg .b = 0x00 ∧ s.reg .c = 0x13 ∧ s.reg .d = 0x00 ∧ s.reg .e = 0xD8 ∧
          s.reg .h = 0x01 ∧ s.reg .l = 0x4D ∧ s.regs.sp = 0xFFFE ∧ s.regs.pc = 0x0100) ∧
      (s.colorMode = true →
        s.reg .a = 0x11 ∧ s.flagByte = 0x80 ∧ s.reg .b = 0x00 ∧ s.reg .c = 0x00 ∧ s.reg .d = 0xFF ∧ s.reg .e = 0x56 ∧
          s.reg .h = 0x00 ∧ s.reg .l = 0x0D ∧ s.regs.sp = 0xFFFE ∧ s.regs.pc = 0x0100)) ∧
    (∀ (rom : List Byte) (setup : Setup) (request : Bool) (s : State), construct rom setup request = some s →
      s.flagByte &&& 0x0F = 0)) ∧
  (∀ (rom : List Byte) (request : Bool) (s : State), construct rom .standard request = some s →
      s.ime = false ∧ s.eiPending = false ∧ s.halted = false ∧ s.doubleSpeed = false ∧ s.speedPrep = false ∧ s.cycles = 0 ∧
        s.fault = none ∧ s.debugHalt = false ∧ s.breakpoints = [] ∧ s.intBreakpoints = [] ∧ s.watchpoints = [] ∧
        s.pedantic = false ∧ s.memRead 0xFFFF = .ok 0x00 ∧ ∀ k, ¬s.IsPending k)

/-- R1004: the device registers after construction; the first sample edge is at the period of the sink's rate (R953). -/
def Obligations.BootDevices : Prop :=
  ∀ (rom : List Byte) (request : Bool) (s : State), construct rom .standard request = some s →
    (s.input = ⟨3, 0, 0⟩ ∧ s.input.low6 = 0x3F ∧ s.timer.divBase = 0 ∧ s.memRead 0xFF04 = .ok 0x00 ∧
      s.memRead 0xFF05 = .ok 0x00 ∧ s.memRead 0xFF06 = .ok 0x00 ∧ s.timer.tac = 0 ∧ s.ifr = 0 ∧ s.memRead 0xFFFF = .ok 0x00) ∧
    (s.audio.nr10 = 0 ∧ s.audio.nr11 = 0 ∧ s.audio.nr12 = 0 ∧ s.audio.nr13 = 0 ∧ s.audio.nr14 = 0 ∧
      s.audio.nr21 = 0 ∧ s.audio.nr22 = 0 ∧ s.audio.nr23 = 0 ∧ s.audio.nr24 = 0 ∧
      s.audio.nr30 = 0 ∧ s.audio.nr31 = 0 ∧ s.audio.nr32 = 0 ∧ s.audio.nr33 = 0 ∧ s.audio.nr34 = 0 ∧
      s.audio.nr41 = 0 ∧ s.audio.nr42 = 0 ∧ s.audio.nr43 = 0 ∧ s.audio.nr44 = 0 ∧
      s.audio.nr50 = 0x77 ∧ s.audio.nr51 = 0xF3 ∧ s.audio.power = true ∧
      s.audio.ch1 = ⟨false, 0, 0⟩ ∧ s.audio.ch2 = ⟨false, 0, 0⟩ ∧ s.audio.ch3 = ⟨false, 0, 0⟩ ∧ s.audio.ch4 = ⟨false, 0, 0⟩ ∧
      s.audio.env1 = ⟨0, 0⟩ ∧ s.audio.env2 = ⟨0, 0⟩ ∧ s.audio.env4 = ⟨0, 0⟩ ∧ s.audio.sweep.counter = 0 ∧
      s.audio.noise.lfsr = 0x7FFF ∧ s.audio.nextSample = samplePeriod s.cfg ∧ s.audio.nextLength = 16384 ∧
      s.audio.nextEnvelope = 65536 ∧ s.audio.nextSweep = 32768) ∧
    (s.memRead 0xFF40 = .ok 0x91 ∧ s.video.stat = 0 ∧ s.modeAt s.lastPump = 2 ∧ s.video.videoBase = 0 ∧ s.video.prevMatch = true ∧
      s.memRead 0xFF42 = .ok 0x00 ∧ s.memRead 0xFF43 = .ok 0x00 ∧ s.memRead 0xFF44 = .ok 0x00 ∧ s.memRead 0xFF45 = .ok 0x00 ∧
      s.memRead 0xFF46 = .ok 0x00 ∧ s.memRead 0xFF47 = .ok 0xFC ∧ s.memRead 0xFF48 = .ok 0xFF ∧ s.memRead 0xFF49 = .ok 0xFF ∧
      s.memRead 0xFF4A = .ok 0x00 ∧ s.memRead 0xFF4B = .ok 0x00) ∧
    s.doubleSpeed = false ∧ s.speedPrep = false ∧ s.video.vbk = 0 ∧ s.svbk = 0 ∧
      s.hdma1 = 0 ∧ s.hdma2 = 0 ∧ s.hdma3 = 0 ∧ s.hdma4 = 0 ∧ s.hdma5 = 0 ∧ s.video.bcps = ⟨false, 0⟩ ∧ s.video.ocps = ⟨false, 0⟩

/-- R230, R231, R150, R807: when construction succeeds, and the mode it resolves. -/
def Obligations.ConstructionSucceeds : Prop :=
  ∀ (rom : List Byte) (request : Bool),
    ((construct rom .standard request).isSome = true ↔
      0x150 ≤ rom.length ∧
        (rom.getD 0x147 0 : Byte) ∈ ([0x00, 0x08, 0x09, 0x01, 0x02, 0x03, 0x19, 0x1A, 0x1B, 0x1C, 0x1D, 0x1E] : List Byte) ∧
        (rom.getD 0x148 0 : Byte).toNat ≤ 8 ∧ (rom.getD 0x149 0 : Byte).toNat ≤ 5) ∧
    ∀ s, construct rom .standard request = some s →
      s.colorMode = (request && (rom.getD 0x143 0 : Byte).getLsbD 7) ∧
        s.cart.romBanks = 2 * 2 ^ (rom.getD 0x148 0 : Byte).toNat ∧ s.cart.romLength = rom.length ∧
        s.cart.ramSize = ([0, 2048, 8192, 32768, 131072, 65536] : List Nat).getD (rom.getD 0x149 0 : Byte).toNat 0

/-! ## The invariant -/

/-- `State.reset` is what construction makes of a 32 KiB image of zeros (the image is the model's choice, log 3); the invariant
holds there, and after every construction with the default registers and parameters. -/
def Obligations.InvAtStart : Prop :=
  construct (List.replicate 0x8000 0) .standard false = some State.reset ∧ State.reset.Inv ∧
  (∀ (rom : List Byte) (request : Bool) (s : State), construct rom .standard request = some s → s.Inv)

/-- The invariant is kept by every step, from every state that meets it. -/
def Obligations.StepKeepsInv : Prop := ∀ s t : State, s.Inv → step s = .next t → t.Inv

/-- R103: the low nibble of F reads as 0 in every state, and a step from a state whose stored nibble is 0 leaves it 0. -/
def Obligations.FlagNibbleZero : Prop :=
  (∀ s : State, s.flagByte &&& 0x0F = 0 ∧ (s.af.extractLsb' 0 8 : Byte) &&& 0x0F = 0) ∧
  ∀ s t : State, s.regs.f &&& 0x0F = 0 → step s = .next t → t.regs.f &&& 0x0F = 0

/-- R112, R116, R132, R115, R847: no step changes the mode, the parameters, the ROM image or the host's settings, nor turns CYCLES
back; in monochrome mode the speed bits stay 0. -/
def Obligations.SetupConstantTimeForward : Prop :=
  ∀ s t : State, step s = .next t → SameSetup s t ∧ s.cycles ≤ t.cycles ∧
    (s.colorMode = false → s.doubleSpeed = false → s.speedPrep = false → t.doubleSpeed = false ∧ t.speedPrep = false)

/-! ## Encoding -/

/-- Decoding an encoded well-formed instruction gives it back, whatever follows. -/
def Obligations.DecodeEncode : Prop :=
  ∀ (i : Instr) (rest : List Byte), i.wellFormed = true → decode (encode i ++ rest) = .ok (i, rest)

/-- R302, R303, R340: what decodes is the encoding of the well-formed instruction it decodes to, and the rest is what follows; decoding
fails only for want of bytes; the eleven bytes decode to INVALID, every other first byte to an instruction. -/
def Obligations.DecodeInverts : Prop :=
  (∀ (bs : List Byte) (i : Instr) (rest : List Byte), decode bs = .ok (i, rest) → i.wellFormed = true ∧ bs = encode i ++ rest) ∧
  (∀ (o : Byte) (t : List Byte),
      ((∃ i rest, decode (o :: t) = .ok (i, rest)) ↔ instrLength o ≤ t.length + 1) ∧
      (∀ i rest, decode (o :: t) = .ok (i, rest) →
        ((o ∈ ([0xD3, 0xDB, 0xDD, 0xE3, 0xE4, 0xEB, 0xEC, 0xED, 0xF4, 0xFC, 0xFD] : List Byte)) ↔ i = .invalid o)))

/-- A few words of the opcode table, written from the encodings of 30_encoding. -/
def Obligations.SampleWords : Prop :=
  decode [0b01001000] = .ok (.ldCB, []) ∧
  decode [0b00100001, 0x34, 0x12] = .ok (.ldHLImm16 0x1234, []) ∧
  decode [0b10011110] = .ok (.sbcAAtHL, []) ∧
  decode [0b00111001] = .ok (.addHLSP, []) ∧
  decode [0b11001011, 0b00110110] = .ok (.swapAtHL, []) ∧
  decode [0b11001011, 0b01111100] = .ok (.bit7H, []) ∧
  decode [0b00110000, 0xFE] = .ok (.jrNCE8 0xFE, []) ∧
  decode [0b11101111] = .ok (.rst28, []) ∧
  decode [0b00010000, 0x00] = .ok (.stop 0x00, []) ∧
  decode [0b11010011] = .ok (.invalid 0xD3, [])

/-! ## 8-bit loads -/

/-- R400, R401: the register and immediate loads. -/
def Obligations.RegisterLoads : Prop :=
  (∀ (r q : Reg8) (s : State),
    (∃ t, exec (ldRegReg r q) s = .next t ∧ t.reg r = s.reg q ∧ t.flags = s.flags ∧ KeepsRegs [r] s t ∧ OnlyRegs s t) ∧
      Spells (ldRegReg r q) [0x40 ||| regCode r <<< 3 ||| regCode q] 4 4) ∧
  (∀ (r : Reg8) (n : Byte) (s : State),
    (∃ t, exec (ldRegImm r n) s = .next t ∧ t.reg r = n ∧ t.flags = s.flags ∧ KeepsRegs [r] s t ∧ OnlyRegs s t) ∧
      Spells (ldRegImm r n) [0x06 ||| regCode r <<< 3, n] 8 8)

/-- R402, R405, R406, R409, R411, R413: the loads from memory; a read that raises leaves the registers as they were. -/
def Obligations.MemoryLoads : Prop :=
  ∀ (s : State) (i : Instr) (r : Reg8) (a : Word) (bs : List Byte) (c : Nat), ByteLoad s i r a bs c →
    (∀ v, s.memRead a = .ok v →
      ∃ t, exec i s = .next t ∧ t.reg r = v ∧ t.flags = s.flags ∧ KeepsRegs [r] s t ∧ OnlyRegs s t) ∧
    (∀ e, s.memRead a = .error e → exec i s = .next (s.raise e)) ∧ Spells i bs c c

/-- R403, R404, R407, R408, R410, R412, R414: the stores are the one bus write; where the address reaches RAM, the byte is
stored and every address that does not reach it reads as before. -/
def Obligations.MemoryStores : Prop :=
  ∀ (s : State) (i : Instr) (a : Word) (v : Byte) (bs : List Byte) (c : Nat), ByteStore s i a v bs c →
    (∀ t, s.memWrite a v = .ok t → exec i s = .next t ∧ t.regs = s.regs) ∧
    (∀ e t, s.memWrite a v = .err e t → exec i s = .next (t.raise e)) ∧
    (s.MemoriesWf → RamAt s a → ∃ t, exec i s = .next t ∧ t.regs = s.regs ∧ StoredByte s t a v ∧ OnlyRegsAndRam s t) ∧
    Spells i bs c c

/-- R415 to R418: the loads and stores at (HL+) and (HL-); an access that raises leaves HL. -/
def Obligations.SteppingAccesses : Prop :=
  (∀ (s : State) (i : Instr) (w : Word), (i = .ldAAtHLInc ∧ w = s.hl + 1) ∨ (i = .ldAAtHLDec ∧ w = s.hl - 1) →
      (∀ v, s.memRead s.hl = .ok v →
        ∃ t, exec i s = .next t ∧ t.reg .a = v ∧ t.hl = w ∧ t.flags = s.flags ∧ KeepsRegs [.a, .h, .l] s t ∧ OnlyRegs s t) ∧
      (∀ e, s.memRead s.hl = .error e → exec i s = .next (s.raise e)) ∧
      Spells .ldAAtHLInc [0x2A] 8 8 ∧ Spells .ldAAtHLDec [0x3A] 8 8) ∧
  (∀ (s : State) (i : Instr) (w : Word), (i = .ldAtHLIncA ∧ w = s.hl + 1) ∨ (i = .ldAtHLDecA ∧ w = s.hl - 1) →
      (∀ u, s.memWrite s.hl (s.reg .a) = .ok u →
        ∃ t, exec i s = .next t ∧ t.hl = w ∧ t.flags = s.flags ∧ KeepsRegs [.h, .l] s t ∧ t = { u with regs := t.regs }) ∧
      (∀ e u, s.memWrite s.hl (s.reg .a) = .err e u → exec i s = .next (u.raise e)) ∧
      (s.MemoriesWf → RamAt s s.hl →
        ∃ t, exec i s = .next t ∧ t.hl = w ∧ t.flags = s.flags ∧ KeepsRegs [.h, .l] s t ∧ StoredByte s t s.hl (s.reg .a) ∧
          OnlyRegsAndRam s t) ∧
      Spells .ldAtHLIncA [0x22] 8 8 ∧ Spells .ldAtHLDecA [0x32] 8 8)

/-! ## 16-bit loads and the stack -/

/-- R450 to R452: LD rr,d16, LD SP,HL, and LD (a16),SP as two writes, the low byte first; if the second raises, the first stays
written. -/
def Obligations.WordLoads : Prop :=
  ((∀ (p : Pair) (nn : Word) (s : State),
      (∃ t, exec (ldPairImm p nn) s = .next t ∧ t.pair p = nn ∧ (∀ q, q ≠ p → t.pair q = s.pair q) ∧ t.reg .a = s.reg .a ∧
        t.flags = s.flags ∧ t.regs.pc = s.regs.pc ∧ OnlyRegs s t) ∧
      Spells (ldPairImm p nn) [0x01 ||| pairCode p <<< 4, nn.extractLsb' 0 8, nn.extractLsb' 8 8] 12 12) ∧
    (∀ s : State, exec .ldSPHL s = .next { s with regs := { s.regs with sp := s.reg .h ++ s.reg .l } }) ∧
    Spells .ldSPHL [0xF9] 8 8) ∧
  (∀ (s : State) (a : Word),
      (∀ t u, s.memWrite a (s.regs.sp.extractLsb' 0 8) = .ok t → t.memWrite (a + 1) (s.regs.sp.extractLsb' 8 8) = .ok u →
        exec (.ldAtA16SP a) s = .next u ∧ u.regs = s.regs) ∧
      (∀ e t, s.memWrite a (s.regs.sp.extractLsb' 0 8) = .err e t → exec (.ldAtA16SP a) s = .next (t.raise e)) ∧
      (∀ t e u, s.memWrite a (s.regs.sp.extractLsb' 0 8) = .ok t → t.memWrite (a + 1) (s.regs.sp.extractLsb' 8 8) = .err e u →
        exec (.ldAtA16SP a) s = .next (u.raise e)) ∧
      (s.MemoriesWf → RamAt s a → RamAt s (a + 1) → s.target a ≠ s.target (a + 1) →
        ∃ t, exec (.ldAtA16SP a) s = .next t ∧ t.regs = s.regs ∧
          StoredBytes s t a (a + 1) (s.regs.sp.extractLsb' 0 8) (s.regs.sp.extractLsb' 8 8) ∧ OnlyRegsAndRam s t) ∧
      Spells (.ldAtA16SP a) [0x08, a.extractLsb' 0 8, a.extractLsb' 8 8] 20 20)

/-- R453 to R455: PUSH and POP; POP AF writes the flags from the low byte, its low nibble discarded. -/
def Obligations.PushPop : Prop :=
  (∀ (p : StackPair) (s : State), PushesThen (pushPair p) s (s.stackPair p) s.regs.pc ∧
      Spells (pushPair p) [0xC5 ||| stackPairCode p <<< 4] 16 16) ∧
  ((∀ (p : StackPair) (s : State), p ≠ .af →
      PopsThen (popPair p) s fun w t =>
        t.stackPair p = w ∧ (∀ q, q ≠ p → t.stackPair q = s.stackPair q) ∧ t.flags = s.flags ∧ t.regs.pc = s.regs.pc ∧ OnlyRegs s t) ∧
    (∀ s : State, PopsThen (popPair .af) s fun w t =>
        t.reg .a = w.extractLsb' 8 8 ∧ t.flagByte = w.extractLsb' 0 8 &&& 0xF0 ∧
          t.flags = ⟨w.getLsbD 7, w.getLsbD 6, w.getLsbD 5, w.getLsbD 4⟩ ∧ KeepsRegs8 [.a] s t ∧ t.regs.pc = s.regs.pc ∧
          OnlyRegs s t) ∧
    ∀ p, Spells (popPair p) [0xC1 ||| stackPairCode p <<< 4] 12 12)

/-! ## 8-bit arithmetic and logic -/

/-- R501, R510 to R515: ADD and ADC. -/
def Obligations.AddAdc : Prop :=
  (∀ (s : State) (op : AluOp) (i : Instr) (v : Byte) (cin : Nat) (bs : List Byte) (c : Nat),
    (op = .add ∧ cin = 0) ∨ (op = .adc ∧ cin = if s.flags.c then 1 else 0) → AluForm s op i v bs c →
    (∃ t, exec i s = .next t ∧ (t.reg .a).toNat = ((s.reg .a).toNat + v.toNat + cin) % 256 ∧
      t.flags = ⟨decide (t.reg .a = 0), false, decide ((s.reg .a).toNat % 16 + v.toNat % 16 + cin > 15),
        decide ((s.reg .a).toNat + v.toNat + cin > 255)⟩ ∧ KeepsRegs [.a] s t ∧ OnlyRegs s t) ∧ Spells i bs c c) ∧
  ∀ (op : AluOp) (s : State) (e : StepError), op = .add ∨ op = .adc → s.memRead s.hl = .error e →
    exec (aluAtHL op) s = .next (s.raise e)

/-- R502, R506, R516 to R521, R531 to R533: SUB, SBC and CP; CP writes the flags of a subtraction and leaves A. -/
def Obligations.SubSbcCp : Prop :=
  ((∀ (s : State) (op : AluOp) (i : Instr) (v : Byte) (cin : Nat) (bs : List Byte) (c : Nat),
      (op = .sub ∧ cin = 0) ∨ (op = .sbc ∧ cin = if s.flags.c then 1 else 0) → AluForm s op i v bs c →
      (∃ t, exec i s = .next t ∧ (t.reg .a).toNat = ((s.reg .a).toNat + 512 - v.toNat - cin) % 256 ∧
        t.flags = ⟨decide (t.reg .a = 0), true, decide ((s.reg .a).toNat % 16 < v.toNat % 16 + cin),
          decide ((s.reg .a).toNat < v.toNat + cin)⟩ ∧ KeepsRegs [.a] s t ∧ OnlyRegs s t) ∧ Spells i bs c c) ∧
    ∀ (op : AluOp) (s : State) (e : StepError), op = .sub ∨ op = .sbc → s.memRead s.hl = .error e →
      exec (aluAtHL op) s = .next (s.raise e)) ∧
  ((∀ (s : State) (i : Instr) (v : Byte) (bs : List Byte) (c : Nat), AluForm s .cp i v bs c →
      (∃ t, exec i s = .next t ∧
        t.flags = ⟨decide (s.reg .a = v), true, decide ((s.reg .a).toNat % 16 < v.toNat % 16), decide ((s.reg .a).toNat < v.toNat)⟩ ∧
        KeepsRegs [] s t ∧ OnlyRegs s t) ∧ Spells i bs c c) ∧
    ∀ (s : State) (e : StepError), s.memRead s.hl = .error e → exec (aluAtHL .cp) s = .next (s.raise e))

/-- R503 to R505, R522 to R530: AND, XOR and OR, bit by bit. -/
def Obligations.AndXorOr : Prop :=
  (∀ (s : State) (op : AluOp) (f : Bool → Bool → Bool) (h : Bool) (i : Instr) (v : Byte) (bs : List Byte) (c : Nat),
    (op = .and ∧ f = and ∧ h = true) ∨ (op = .xor ∧ f = xor ∧ h = false) ∨ (op = .or ∧ f = or ∧ h = false) →
    AluForm s op i v bs c →
    (∃ t, exec i s = .next t ∧ (∀ k, k < 8 → (t.reg .a).getLsbD k = f ((s.reg .a).getLsbD k) (v.getLsbD k)) ∧
      t.flags = ⟨decide (t.reg .a = 0), false, h, false⟩ ∧ KeepsRegs [.a] s t ∧ OnlyRegs s t) ∧ Spells i bs c c) ∧
  ∀ (op : AluOp) (s : State) (e : StepError), op = .and ∨ op = .xor ∨ op = .or → s.memRead s.hl = .error e →
    exec (aluAtHL op) s = .next (s.raise e)

/-- R507, R508, R540 to R543: INC and DEC of a register and of (HL); C is kept. -/
def Obligations.IncDec : Prop :=
  (∀ (r : Reg8) (s : State),
    (∃ t, exec (incReg r) s = .next t ∧ t.reg r = s.reg r + 1 ∧
      t.flags = ⟨decide (s.reg r = 0xFF), false, decide ((s.reg r).toNat % 16 = 15), s.flags.c⟩ ∧ KeepsRegs [r] s t ∧ OnlyRegs s t) ∧
    (∃ t, exec (decReg r) s = .next t ∧ t.reg r = s.reg r - 1 ∧
      t.flags = ⟨decide (s.reg r = 0x01), true, decide ((s.reg r).toNat % 16 = 0), s.flags.c⟩ ∧ KeepsRegs [r] s t ∧ OnlyRegs s t) ∧
    Spells (incReg r) [0x04 ||| regCode r <<< 3] 4 4 ∧ Spells (decReg r) [0x05 ||| regCode r <<< 3] 4 4) ∧
  (∀ s : State,
    ModifiesAtHL .incAtHL s (fun v => v + 1) (fun v => ⟨decide (v = 0xFF), false, decide (v.toNat % 16 = 15), s.flags.c⟩) ∧
    ModifiesAtHL .decAtHL s (fun v => v - 1) (fun v => ⟨decide (v = 0x01), true, decide (v.toNat % 16 = 0), s.flags.c⟩)) ∧
  Spells .incAtHL [0x34] 12 12 ∧ Spells .decAtHL [0x35] 12 12

/-- R509, R550 to R553: DAA as the correction of A by 00, 06, 60 or 66; CPL, SCF and CCF. -/
def Obligations.AccumulatorAdjust : Prop :=
  ((∀ s : State, ∃ t, exec .daa s = .next t ∧
      (s.flags.n = false →
        (t.reg .a).toNat = ((s.reg .a).toNat + (if s.flags.c ∨ (s.reg .a).toNat > 0x99 then 0x60 else 0) +
          (if s.flags.h ∨ (s.reg .a).toNat % 16 > 9 then 0x06 else 0)) % 256 ∧
        t.flags.c = decide (s.flags.c ∨ (s.reg .a).toNat > 0x99)) ∧
      (s.flags.n = true →
        (t.reg .a).toNat = ((s.reg .a).toNat + 512 - (if s.flags.c then 0x60 else 0) - (if s.flags.h then 0x06 else 0)) % 256 ∧
        t.flags.c = s.flags.c) ∧
      t.flags.z = decide (t.reg .a = 0) ∧ t.flags.n = s.flags.n ∧ t.flags.h = false ∧ KeepsRegs [.a] s t ∧ OnlyRegs s t) ∧
    Spells .daa [0x27] 4 4) ∧
  ((∀ s : State,
      (∃ t, exec .cpl s = .next t ∧ (∀ k, k < 8 → (t.reg .a).getLsbD k = !(s.reg .a).getLsbD k) ∧
        t.flags = ⟨s.flags.z, true, true, s.flags.c⟩ ∧ KeepsRegs [.a] s t ∧ OnlyRegs s t) ∧
      (∃ t, exec .scf s = .next t ∧ t.flags = ⟨s.flags.z, false, false, true⟩ ∧ KeepsRegs [] s t ∧ OnlyRegs s t) ∧
      (∃ t, exec .ccf s = .next t ∧ t.flags = ⟨s.flags.z, false, false, !s.flags.c⟩ ∧ KeepsRegs [] s t ∧ OnlyRegs s t)) ∧
    Spells .cpl [0x2F] 4 4 ∧ Spells .scf [0x37] 4 4 ∧ Spells .ccf [0x3F] 4 4)

/-- DAA after ADD and after SUB of two packed-BCD bytes gives their decimal sum and difference modulo 100, C the carry or
borrow (R509: it "corrects A after an add or a subtract of two packed-BCD bytes"). -/
def Obligations.DecimalAdjustIsDecimal : Prop :=
  ∀ x y : Nat, x < 100 → y < 100 →
    let bcd (n : Nat) : Byte := BitVec.ofNat 8 (n / 10 % 10 * 16 + n % 10)
    let sum := add8 (bcd x) (bcd y) false
    let diff := sub8 (bcd x) (bcd y) false
    (daa8 sum.1 sum.2).1 = bcd (x + y) ∧ (daa8 sum.1 sum.2).2.c = decide (100 ≤ x + y) ∧
      (daa8 diff.1 diff.2).1 = bcd (x + 100 - y) ∧ (daa8 diff.1 diff.2).2.c = decide (x < y)

/-! ## 16-bit arithmetic -/

/-- R600 to R604: ADD HL,rr; INC rr and DEC rr, which write no flag; SP plus a signed displacement, into SP or HL. -/
def Obligations.WordArithmetic : Prop :=
  (∀ (p : Pair) (s : State),
      (∃ t, exec (addHLPair p) s = .next t ∧ t.hl = s.hl + s.pair p ∧
        t.flags = ⟨s.flags.z, false, decide (s.hl.toNat % 4096 + (s.pair p).toNat % 4096 > 4095),
          decide (s.hl.toNat + (s.pair p).toNat > 65535)⟩ ∧ KeepsRegs [.h, .l] s t ∧ OnlyRegs s t) ∧
      Spells (addHLPair p) [0x09 ||| pairCode p <<< 4] 8 8) ∧
  (∀ (p : Pair) (s : State),
      (∃ t, exec (incPair p) s = .next t ∧ t.pair p = s.pair p + 1 ∧ (∀ q, q ≠ p → t.pair q = s.pair q) ∧ t.reg .a = s.reg .a ∧
        t.flags = s.flags ∧ t.regs.pc = s.regs.pc ∧ OnlyRegs s t) ∧
      (∃ t, exec (decPair p) s = .next t ∧ t.pair p = s.pair p - 1 ∧ (∀ q, q ≠ p → t.pair q = s.pair q) ∧ t.reg .a = s.reg .a ∧
        t.flags = s.flags ∧ t.regs.pc = s.regs.pc ∧ OnlyRegs s t) ∧
      Spells (incPair p) [0x03 ||| pairCode p <<< 4] 8 8 ∧ Spells (decPair p) [0x0B ||| pairCode p <<< 4] 8 8) ∧
  (∀ (e : Byte) (s : State),
      (∃ t, exec (.addSPE8 e) s = .next t ∧ t.regs.sp = s.regs.sp + BitVec.ofInt 16 e.toInt ∧
        t.flags = ⟨false, false, decide (s.regs.sp.toNat % 16 + e.toNat % 16 > 15), decide (s.regs.sp.toNat % 256 + e.toNat > 255)⟩ ∧
        KeepsRegs8 [] s t ∧ t.regs.pc = s.regs.pc ∧ OnlyRegs s t) ∧
      (∃ t, exec (.ldHLSPE8 e) s = .next t ∧ t.hl = s.regs.sp + BitVec.ofInt 16 e.toInt ∧
        t.flags = ⟨false, false, decide (s.regs.sp.toNat % 16 + e.toNat % 16 > 15), decide (s.regs.sp.toNat % 256 + e.toNat > 255)⟩ ∧
        KeepsRegs [.h, .l] s t ∧ OnlyRegs s t) ∧
      Spells (.addSPE8 e) [0xE8, e] 16 16 ∧ Spells (.ldHLSPE8 e) [0xF8, e] 12 12)

/-! ## Rotates, shifts and bits -/

/-- R650 to R653: the rotates of A clear Z. -/
def Obligations.RotatesOfA : Prop :=
  (∀ (s : State) (i : Instr) (res : Byte) (c : Bool),
    (i = .rlca ∧ res = (s.reg .a).rotateLeft 1 ∧ c = (s.reg .a).getLsbD 7) ∨
    (i = .rrca ∧ res = (s.reg .a).rotateRight 1 ∧ c = (s.reg .a).getLsbD 0) ∨
    (i = .rla ∧ res = (s.reg .a).extractLsb' 0 7 ++ BitVec.ofBool s.flags.c ∧ c = (s.reg .a).getLsbD 7) ∨
    (i = .rra ∧ res = BitVec.ofBool s.flags.c ++ (s.reg .a).extractLsb' 1 7 ∧ c = (s.reg .a).getLsbD 0) →
    ∃ t, exec i s = .next t ∧ t.reg .a = res ∧ t.flags = ⟨false, false, false, c⟩ ∧ KeepsRegs [.a] s t ∧ OnlyRegs s t) ∧
  Spells .rlca [0x07] 4 4 ∧ Spells .rrca [0x0F] 4 4 ∧ Spells .rla [0x17] 4 4 ∧ Spells .rra [0x1F] 4 4

/-- R656 to R658: the result and the bit shifted out of each CB rotate, shift and SWAP, as fields of the operand; eight circular
rotations return every byte, four exactly those with equal nibbles. -/
def Obligations.RotateResults : Prop :=
  (∀ (v : Byte) (cin : Bool),
      rotShift .rlc v cin = (v.extractLsb' 0 7 ++ v.extractLsb' 7 1, v.getLsbD 7) ∧
      rotShift .rrc v cin = (v.extractLsb' 0 1 ++ v.extractLsb' 1 7, v.getLsbD 0) ∧
      rotShift .rl v cin = (v.extractLsb' 0 7 ++ BitVec.ofBool cin, v.getLsbD 7) ∧
      rotShift .rr v cin = (BitVec.ofBool cin ++ v.extractLsb' 1 7, v.getLsbD 0) ∧
      rotShift .sla v cin = (v.extractLsb' 0 7 ++ (0 : BitVec 1), v.getLsbD 7) ∧
      rotShift .sra v cin = (v.sshiftRight 1, v.getLsbD 0) ∧
      rotShift .srl v cin = ((0 : BitVec 1) ++ v.extractLsb' 1 7, v.getLsbD 0) ∧
      rotShift .swap v cin = (v.extractLsb' 0 4 ++ v.extractLsb' 4 4, false)) ∧
  (∀ v : Byte,
      (fun x => (rlc8 x).1)^[8] v = v ∧ (fun x => (rrc8 x).1)^[8] v = v ∧
      ((fun x => (rlc8 x).1)^[4] v = v ↔ v.extractLsb' 4 4 = v.extractLsb' 0 4) ∧
      ((fun x => (rrc8 x).1)^[4] v = v ↔ v.extractLsb' 4 4 = v.extractLsb' 0 4))

/-- R660 to R674 (register forms), R655, R659: CB rotates, shifts and SWAP of a register. -/
def Obligations.RotateRegister : Prop :=
  ∀ (op : RotOp) (r : Reg8) (s : State),
    (∃ t, exec (rotReg op r) s = .next t ∧ t.reg r = (rotShift op (s.reg r) s.flags.c).1 ∧
      t.flags = ⟨decide (t.reg r = 0), false, false, (rotShift op (s.reg r) s.flags.c).2⟩ ∧ KeepsRegs [r] s t ∧ OnlyRegs s t) ∧
    Spells (rotReg op r) [0xCB, rotCode op <<< 3 ||| regCode r] 8 8

/-- R661 to R675 ((HL) forms), R655, R659: a read, a write, then the flags. -/
def Obligations.RotateAtHl : Prop :=
  ∀ (op : RotOp) (s : State),
    ModifiesAtHL (rotAtHL op) s (fun v => (rotShift op v s.flags.c).1)
      (fun v => ⟨decide ((rotShift op v s.flags.c).1 = 0), false, false, (rotShift op v s.flags.c).2⟩) ∧
    Spells (rotAtHL op) [0xCB, 0x06 ||| rotCode op <<< 3] 16 16

/-- R680, R681: BIT. -/
def Obligations.BitTest : Prop :=
  (∀ (b : Fin 8) (r : Reg8) (s : State),
    (∃ t, exec (bitReg b r) s = .next t ∧ t.flags = ⟨!(s.reg r).getLsbD b.val, false, true, s.flags.c⟩ ∧ KeepsRegs [] s t ∧
      OnlyRegs s t) ∧
    Spells (bitReg b r) [0xCB, 0x40 ||| BitVec.ofNat 8 (8 * b.val) ||| regCode r] 8 8) ∧
  (∀ (b : Fin 8) (s : State),
    (∀ v, s.memRead s.hl = .ok v →
      ∃ t, exec (bitAtHL b) s = .next t ∧ t.flags = ⟨!v.getLsbD b.val, false, true, s.flags.c⟩ ∧ KeepsRegs [] s t ∧ OnlyRegs s t) ∧
    (∀ e, s.memRead s.hl = .error e → exec (bitAtHL b) s = .next (s.raise e)) ∧
    Spells (bitAtHL b) [0xCB, 0x46 ||| BitVec.ofNat 8 (8 * b.val)] 12 12)

/-- R682 to R685: RES and SET of a register, bit by bit, and of (HL): the write happens whatever the bit was; no flag is written. -/
def Obligations.BitWrites : Prop :=
  (∀ (b : Fin 8) (r : Reg8) (s : State),
      (∃ t, exec (resReg b r) s = .next t ∧
        (∀ k, k < 8 → (t.reg r).getLsbD k = if k = b.val then false else (s.reg r).getLsbD k) ∧ t.flags = s.flags ∧
        KeepsRegs [r] s t ∧ OnlyRegs s t) ∧
      (∃ t, exec (setReg b r) s = .next t ∧
        (∀ k, k < 8 → (t.reg r).getLsbD k = if k = b.val then true else (s.reg r).getLsbD k) ∧ t.flags = s.flags ∧
        KeepsRegs [r] s t ∧ OnlyRegs s t) ∧
      Spells (resReg b r) [0xCB, 0x80 ||| BitVec.ofNat 8 (8 * b.val) ||| regCode r] 8 8 ∧
      Spells (setReg b r) [0xCB, 0xC0 ||| BitVec.ofNat 8 (8 * b.val) ||| regCode r] 8 8) ∧
  (∀ (b : Fin 8) (s : State),
      ModifiesAtHL (resAtHL b) s (fun v => v &&& ~~~BitVec.twoPow 8 b.val) (fun _ => s.flags) ∧
      ModifiesAtHL (setAtHL b) s (fun v => v ||| BitVec.twoPow 8 b.val) (fun _ => s.flags) ∧
      Spells (resAtHL b) [0xCB, 0x86 ||| BitVec.ofNat 8 (8 * b.val)] 16 16 ∧
      Spells (setAtHL b) [0xCB, 0xC6 ||| BitVec.ofNat 8 (8 * b.val)] 16 16)

/-! ## Control -/

/-- R700 to R705: the jumps, taken and not taken. -/
def Obligations.Jumps : Prop :=
  ∀ s : State,
    (∀ a, exec (.jpA16 a) s = .next { s with regs := { s.regs with pc := a } }) ∧
    exec .jpHL s = .next { s with regs := { s.regs with pc := s.reg .h ++ s.reg .l } } ∧
    (∀ e : Byte, exec (.jrE8 e) s = .next { s with regs := { s.regs with pc := s.regs.pc + BitVec.ofInt 16 e.toInt } }) ∧
    (∀ cc a, condHolds s.flags cc → exec (jpCond cc a) s = .next { s with regs := { s.regs with pc := a } }) ∧
    (∀ cc a, ¬condHolds s.flags cc → exec (jpCond cc a) s = .next s) ∧
    (∀ cc (e : Byte), condHolds s.flags cc →
      exec (jrCond cc e) s = .next { s with regs := { s.regs with pc := s.regs.pc + BitVec.ofInt 16 e.toInt } }) ∧
    (∀ cc e, ¬condHolds s.flags cc → exec (jrCond cc e) s = .next s) ∧
    (∀ a, Spells (.jpA16 a) [0xC3, a.extractLsb' 0 8, a.extractLsb' 8 8] 16 16) ∧ Spells .jpHL [0xE9] 4 4 ∧
    (∀ e, Spells (.jrE8 e) [0x18, e] 12 12) ∧
    (∀ cc a, Spells (jpCond cc a) [0xC2 ||| condCode cc <<< 3, a.extractLsb' 0 8, a.extractLsb' 8 8] 16 12) ∧
    (∀ cc e, Spells (jrCond cc e) [0x20 ||| condCode cc <<< 3, e] 12 8)

/-- R706, R707, R711: the calls and restarts push the address after the instruction. -/
def Obligations.Calls : Prop :=
  ∀ s : State,
    (∀ a, PushesThen (.callA16 a) s s.regs.pc a) ∧
    (∀ cc a, condHolds s.flags cc → PushesThen (callCond cc a) s s.regs.pc a) ∧
    (∀ cc a, ¬condHolds s.flags cc → exec (callCond cc a) s = .next s) ∧
    (∀ k : Fin 8, PushesThen (rstTo k) s s.regs.pc (BitVec.ofNat 16 (8 * k.val))) ∧
    (∀ a, Spells (.callA16 a) [0xCD, a.extractLsb' 0 8, a.extractLsb' 8 8] 24 24) ∧
    (∀ cc a, Spells (callCond cc a) [0xC4 ||| condCode cc <<< 3, a.extractLsb' 0 8, a.extractLsb' 8 8] 24 12) ∧
    (∀ k : Fin 8, Spells (rstTo k) [0xC7 ||| BitVec.ofNat 8 (8 * k.val)] 16 16)

/-- R708, R709, R710: the returns; RETI sets IME at once. -/
def Obligations.Returns : Prop :=
  ∀ s : State,
    PopsThen .ret s (fun w t => t = { s with regs := { s.regs with sp := s.regs.sp + 2, pc := w } }) ∧
    (∀ cc, condHolds s.flags cc →
      PopsThen (retCond cc) s fun w t => t = { s with regs := { s.regs with sp := s.regs.sp + 2, pc := w } }) ∧
    (∀ cc, ¬condHolds s.flags cc → exec (retCond cc) s = .next s) ∧
    PopsThen .reti s (fun w t =>
      t = { s with regs := { s.regs with sp := s.regs.sp + 2, pc := w }, ime := true, eiPending := false }) ∧
    Spells .ret [0xC9] 16 16 ∧ Spells .reti [0xD9] 16 16 ∧ ∀ cc, Spells (retCond cc) [0xC0 ||| condCode cc <<< 3] 20 8

/-! ## System instructions -/

/-- R750, R751, R754, R755: NOP, HALT, DI and EI. -/
def Obligations.SystemInstructions : Prop :=
  (∀ s : State,
    exec .nop s = .next s ∧ exec .halt s = .next { s with halted := true } ∧
    exec .di s = .next { s with ime := false, eiPending := false } ∧
    (s.cfg.eiDelay = true → exec .ei s = .next { s with eiPending := true }) ∧
    (s.cfg.eiDelay = false → exec .ei s = .next { s with ime := true })) ∧
  Spells .nop [0x00] 4 4 ∧ Spells .halt [0x76] 4 4 ∧ Spells .di [0xF3] 4 4 ∧ Spells .ei [0xFB] 4 4

/-- R760, R804: STOP switches a prepared speed, else raises at the address of its opcode, two bytes before PC; the step of a
switch costs 2 base cycles into double speed and 4 back. -/
def Obligations.StopSwitchesSpeed : Prop :=
  ∀ (u : Byte) (s : State),
    (s.Runs → s.cfg.cycleCost = [] → s.colorMode = true → s.speedPrep = true → s.memRead s.regs.pc = .ok 0x10 →
      s.memRead (s.regs.pc + 1) = .ok u →
      ∃ t, step s = .next t ∧ t.cycles = s.cycles + (if s.doubleSpeed then 4 else 2) ∧ t.doubleSpeed = !s.doubleSpeed ∧
        t.speedPrep = false ∧ t.regs = { s.regs with pc := s.regs.pc + 2 }) ∧
    (s.colorMode = true ∧ s.speedPrep = true →
      exec (.stop u) s = .next { s with doubleSpeed := !s.doubleSpeed, speedPrep := false }) ∧
    (¬(s.colorMode = true ∧ s.speedPrep = true) →
      exec (.stop u) s = .next { s with
        fault := some (.stopWithoutSpeedPrep (s.regs.pc - 2)), debugHalt := true
        stepResult := .error (.stopWithoutSpeedPrep (s.regs.pc - 2)) }) ∧
    Spells (.stop u) [0x10, u] 4 4

/-- R765, R802, R806: an opcode byte without an instruction raises InvalidInstruction: no register, flag, memory or IME change,
no cost, no device pumped; PC is past the one byte. -/
def Obligations.InvalidOpcode : Prop :=
  (∀ (op : Byte) (s : State), exec (.invalid op) s = .next { s with
      fault := some (.invalidInstruction op), debugHalt := true, stepResult := .error (.invalidInstruction op) }) ∧
  ∀ (op : Byte) (s : State), (Instr.invalid op).wellFormed = true → s.Runs → s.memRead s.regs.pc = .ok op →
    step s = .next { s with
      regs := { s.regs with pc := s.regs.pc + 1 }
      fault := some (.invalidInstruction op), debugHalt := true, stepResult := .error (.invalidInstruction op) }

/-! ## The step -/

/-- R810: when the bytes at PC decode to an instruction and nothing comes before it, the step is that instruction, run with PC
past its bytes; then, unless it raised, the pending EI is settled, the cost is added to CYCLES, halved in double speed as it
stands now (an odd cost downward, the model's choice, log 24), and the devices are pumped. -/
def Obligations.StepRunsDecoded : Prop :=
  ∀ (s : State) (i : Instr) (bs : List Byte), s.Runs → decode bs = .ok (i, []) → s.BytesAt s.regs.pc bs →
    ∀ u, exec i { s with regs := { s.regs with pc := s.regs.pc + BitVec.ofNat 16 bs.length } } = .next u →
      (u.fault ≠ none → step s = .next u) ∧
      (u.fault = none →
        let s1 : State := { s with regs := { s.regs with pc := s.regs.pc + BitVec.ofNat 16 bs.length } }
        let v : State := if s.eiPending ∧ u.eiPending then { u with ime := true, eiPending := false } else u
        let n := u.cycles + (if u.doubleSpeed then s1.cost i / 2 else s1.cost i)
        step s = .next ({ v with cycles := n, stepResult := .ok }.pump n))

/-- R806, R114: a state with FAULT set has no step, and every other state has one; a step that raises adds no cost, pumps no device
and sets DEBUG_HALT with FAULT; a fetch that raises (R420, R18) leaves PC past the bytes fetched and does nothing else. -/
def Obligations.ErrorsEndTheMachine : Prop :=
  (∀ (s : State) (e : StepError), s.fault = some e → step s = .fault (.faulted e)) ∧
  (∀ (s t : State) (e : StepError), step s = .next t → t.fault = some e →
      t.cycles = s.cycles ∧ t.lastPump = s.lastPump ∧ t.debugHalt = true ∧ t.stepResult = .error e) ∧
  (∀ s : State, s.fault = none → ∃ t, step s = .next t) ∧
  (∀ (s : State) (n : Nat) (e : StepError), s.Runs →
      (∀ k, k < n → ∃ b, s.memRead (s.regs.pc + BitVec.ofNat 16 k) = .ok b) →
      (n = 0 ∨ ∃ o, s.memRead s.regs.pc = .ok o ∧ n < instrLength o) →
      s.memRead (s.regs.pc + BitVec.ofNat 16 n) = .error e →
      step s = .next { s with
        regs := { s.regs with pc := s.regs.pc + BitVec.ofNat 16 n }
        fault := some e, debugHalt := true, stepResult := .error e })

/-- R109: no instruction but DI, EI and RETI writes IME or EI_PENDING; R111, R112: none but HALT sets HALTED, none but STOP
changes DOUBLE_SPEED. -/
def Obligations.ControlBitWriters : Prop :=
  ∀ (i : Instr) (s t : State), exec i s = .next t →
    (i ≠ .di → i ≠ .ei → i ≠ .reti → t.ime = s.ime ∧ t.eiPending = s.eiPending) ∧
    (i ≠ .halt → t.halted = s.halted) ∧ ((∀ u, i ≠ .stop u) → t.doubleSpeed = s.doubleSpeed) ∧
    t.cycles = s.cycles ∧ t.lastPump = s.lastPump

/-- R823, R824, R827: the kind a step services is the pending one of least bit, when IME is 1; the masked byte is 0 exactly
when no kind is pending, so bit 3 takes no part. -/
def Obligations.InterruptPriority : Prop :=
  ∀ s : State,
    (∀ k, s.serviceable = some k ↔ s.ime = true ∧ s.IsPending k ∧ ∀ j : IntKind, j.bit < k.bit → ¬s.IsPending j) ∧
    (s.serviceable = none ↔ s.ime = false ∨ ∀ k, ¬s.IsPending k) ∧ (s.pending = 0 ↔ ∀ k, ¬s.IsPending k)

/-- R825, R829: entering an interrupt: its request cleared, PC pushed, the vector taken, IME and EI_PENDING cleared; an error of
the push leaves IME and PC, SP down by one or two, and the request cleared (unless the first byte was pushed into IF itself). -/
def Obligations.DispatchEnters : Prop :=
  ∀ (s : State) (k : IntKind),
    let s0 : State := { s with ifr := s.ifr &&& ~~~BitVec.twoPow 5 k.bit }
    let vector : Word := ([0x0040, 0x0048, 0x0050, 0, 0x0060] : List Word).getD k.bit 0
    (s.MemoriesWf → RamAt s (s.regs.sp - 1) → RamAt s (s.regs.sp - 2) → s.target (s.regs.sp - 1) ≠ s.target (s.regs.sp - 2) →
      ∃ t, s.dispatch k = .ok t ∧ t.regs = { s.regs with sp := s.regs.sp - 2, pc := vector } ∧
        StoredBytes s0 t (s.regs.sp - 1) (s.regs.sp - 2) (s.regs.pc.extractLsb' 8 8) (s.regs.pc.extractLsb' 0 8) ∧
        OnlyRegsAndRam { s0 with ime := false, eiPending := false } t) ∧
    (∀ e t, s.dispatch k = .err e t →
      t.ime = s.ime ∧ t.regs.pc = s.regs.pc ∧ (t.regs.sp = s.regs.sp - 1 ∨ t.regs.sp = s.regs.sp - 2) ∧
        (s.target (s.regs.sp - 1) ≠ .io .ifr → t.ifr = s.ifr &&& ~~~BitVec.twoPow 5 k.bit))

/-- R810, R825, R826: a step with a serviceable interrupt dispatches it and executes the handler's first instruction in the same
step, for the dispatch cost and its own (the half of an odd total rounded down, the model's choice, log 24); a halted processor
wakes first. -/
def Obligations.InterruptStep : Prop :=
  ∀ (s t u : State) (k : IntKind) (i : Instr) (bs : List Byte), s.fault = none →
    (s.halted = true ∨ s.regs.pc ∉ s.breakpoints) → s.serviceable = some k → k ∉ s.intBreakpoints →
    State.dispatch { s with halted := false } k = .ok t → decode bs = .ok (i, []) → t.BytesAt t.regs.pc bs →
    exec i { t with regs := { t.regs with pc := t.regs.pc + BitVec.ofNat 16 bs.length } } = .next u → u.fault = none →
    let t1 : State := { t with regs := { t.regs with pc := t.regs.pc + BitVec.ofNat 16 bs.length } }
    let c := s.cfg.intDispatchCycles + t1.cost i
    let n := u.cycles + (if u.doubleSpeed then c / 2 else c)
    step s = .next ({ u with cycles := n, stepResult := .ok }.pump n)

/-- R826, R813, R753: with IME 0 a pending enabled interrupt wakes a halted processor: the step is the one it would take not halted.
With nothing pending it executes nothing: CYCLES goes to the next device event, the devices are pumped, and registers, control
bits, FAULT, DEBUG_HALT and memory stay. The next device event is the least cycle value above the given one at which any device
has one. -/
def Obligations.HaltedSteps : Prop :=
  (∀ (s : State) (k : IntKind), s.fault = none → s.halted = true → s.ime = false → s.IsPending k → s.regs.pc ∉ s.breakpoints →
      step s = step { s with halted := false }) ∧
  (∀ s : State, s.fault = none → s.halted = true → (∀ k, ¬s.IsPending k) →
      ∃ t, step s = .next t ∧ s.cycles < t.cycles ∧ t.cycles = s.nextEvent s.cycles ∧ t.lastPump = t.cycles ∧ t.regs = s.regs ∧
        t.ime = s.ime ∧ t.eiPending = s.eiPending ∧ t.halted = true ∧ t.doubleSpeed = s.doubleSpeed ∧ t.speedPrep = s.speedPrep ∧
        t.fault = none ∧ t.debugHalt = s.debugHalt ∧ t.ie = s.ie ∧ (∀ i, t.mem i = s.mem i) ∧
        t.video.bgPalette = s.video.bgPalette ∧ t.video.objPalette = s.video.objPalette ∧ t.audio.wave = s.audio.wave ∧
        t.cart = s.cart ∧ t.input = s.input) ∧
  (∀ (s : State) (n : Nat),
      n < s.nextEvent n ∧ s.EventAt (s.nextEvent n) ∧ ∀ m, n < m → s.EventAt m → s.nextEvent n ≤ m)

/-- R871: a breakpoint at PC removes itself, sets DEBUG_HALT and changes nothing else. R872: an interrupt-breakpoint on the kind a
step dispatches removes itself and sets DEBUG_HALT; the dispatch is done and its cost charged (the half of an odd cost rounded
down, the model's choice, log 24), the devices are pumped, and no instruction executes. -/
def Obligations.BreakpointStops : Prop :=
  (∀ s : State, s.fault = none → s.halted = false → s.regs.pc ∈ s.breakpoints →
      ∃ bps, (∀ a, a ∈ bps ↔ a ∈ s.breakpoints ∧ a ≠ s.regs.pc) ∧
        step s = .next { s with breakpoints := bps, debugHalt := true, stepResult := .breakpoint s.regs.pc }) ∧
  (∀ (s t : State) (k : IntKind), s.fault = none → (s.halted = true ∨ s.regs.pc ∉ s.breakpoints) → s.serviceable = some k →
      k ∈ s.intBreakpoints → State.dispatch { s with halted := false } k = .ok t →
      ∃ kinds, (∀ j, j ∈ kinds ↔ j ∈ s.intBreakpoints ∧ j ≠ k) ∧
        let c := s.cfg.intDispatchCycles
        let n := s.cycles + (if s.doubleSpeed then c / 2 else c)
        step s = .next
          ({ t with intBreakpoints := kinds, debugHalt := true, cycles := n, stepResult := .interruptBreakpoint k }.pump n))

/-- R755, R1020, R754: EI with the delay enables at the end of the next instruction that leaves it pending, and DI cancels it. -/
def Obligations.EiDelay : Prop :=
  ∀ (s t : State) (i : Instr) (bs : List Byte), s.cfg.eiDelay = true → s.ime = false → s.Runs → decode bs = .ok (i, []) →
    s.BytesAt s.regs.pc bs → step s = .next t → t.fault = none →
    (i = .ei → s.eiPending = false → t.ime = false ∧ t.eiPending = true) ∧
    (i ≠ .di → s.eiPending = true → t.ime = true ∧ t.eiPending = false) ∧
    (i = .di → t.ime = false ∧ t.eiPending = false)

/-! ## The bus and the cartridge -/

/-- R210, R211, R215, R233, R240, R253: which accesses raise, and with what; every other access completes. Without a bank controller
a read of 0000 to 7FFF beyond the image and every write there are unmapped accesses, and external RAM is open where the
cartridge has one. That a mirrored access meets a watchpoint on the address it mirrors is the model's reading (log 8). -/
def Obligations.AccessErrors : Prop :=
  ∀ (s : State) (a : Word) (v : Byte),
    (a ∈ s.watchpoints → s.memRead a = .error (.busError a) ∧ s.memWrite a v = .err (.busError a) s) ∧
    (s.cfg.echoMode = .mirror → 0xE000 ≤ a.toNat → a.toNat < 0xFE00 → a ∉ s.watchpoints → a - 0x2000 ∈ s.watchpoints →
      s.memRead a = .error (.busError (a - 0x2000)) ∧ s.memWrite a v = .err (.busError (a - 0x2000)) s) ∧
    (s.watchHit a = none → s.target a = .unmapped ∨ (s.target a = .rom ∧ s.romByte a = none) →
      (s.pedantic = true ∧ a ∉ s.cfg.pedanticAllow → s.memRead a = .error (.busError a)) ∧
      (¬(s.pedantic = true ∧ a ∉ s.cfg.pedanticAllow) → s.memRead a = .ok 0x00)) ∧
    (s.watchHit a = none → s.target a = .unmapped ∨ (s.target a = .rom ∧ s.cart.controller = .direct) →
      (s.pedantic = true ∧ a ∉ s.cfg.pedanticAllow → s.memWrite a v = .err (.busError a) s) ∧
      (¬(s.pedantic = true ∧ a ∉ s.cfg.pedanticAllow) → s.memWrite a v = .ok s)) ∧
    (s.watchHit a = none → s.target a = .gated →
      s.memRead a = .error (.protectionFault a) ∧ s.memWrite a v = .err (.protectionFault a) s) ∧
    (s.Readable a → ∃ w, s.memRead a = .ok w) ∧ (s.Writable a → ∃ t, s.memWrite a v = .ok t) ∧
    (a.toNat < 0x8000 → s.target a = .rom ∧
      (s.cart.controller = .direct →
        s.romByte a = if a.toNat < s.cart.romLength then some (s.cart.rom.read a.toNat) else none)) ∧
    (0xA000 ≤ a.toNat → a.toNat < 0xC000 → s.cart.controller = .direct →
      s.target a = if s.cart.ramSize = 0 then .unmapped else .mem .extRam ((a.toNat - 0xA000) % s.cart.ramSize))

/-- R217, R218, R219, R216: the bytes of RAM that the addresses C000 to FE9F and FF80 to FFFE, and 8000 to 9FFF, reach; an
unwatched access reads or stores the byte it reaches. -/
def Obligations.RamMap : Prop :=
  ∀ (s : State) (a : Word), s.cfg.vramLock = false →
    (∀ i off, s.watchHit a = none → s.target a = .mem i off →
      s.memRead a = .ok ((s.mem i).read off) ∧ ∀ v, s.memWrite a v = .ok (s.setMem i ((s.mem i).write off v))) ∧
    (0xC000 ≤ a.toNat → a.toNat < 0xD000 → s.target a = .mem .wram (a.toNat - 0xC000)) ∧
    (0xD000 ≤ a.toNat → a.toNat < 0xE000 →
      s.target a = .mem .wram ((if s.colorMode ∧ s.svbk ≠ 0 then s.svbk.toNat else 1) * 4096 + (a.toNat - 0xD000))) ∧
    (0xE000 ≤ a.toNat → a.toNat < 0xFE00 → s.cfg.echoMode = .unmapped → s.target a = .unmapped) ∧
    (0xE000 ≤ a.toNat → a.toNat < 0xFE00 → s.cfg.echoMode = .mirror → s.target a = s.target (a - 0x2000)) ∧
    (0xFE00 ≤ a.toNat → a.toNat < 0xFEA0 → s.target a = .mem .oam (a.toNat - 0xFE00)) ∧
    (0xFEA0 ≤ a.toNat → a.toNat < 0xFF00 → s.target a = .unmapped) ∧
    (0xFF80 ≤ a.toNat → a.toNat < 0xFFFF → s.target a = .mem .hram (a.toNat - 0xFF80)) ∧
    (a = 0xFFFF → s.target a = .ie) ∧
    (0x8000 ≤ a.toNat → a.toNat < 0xA000 →
      s.target a = .mem .vram ((if s.colorMode then s.video.vbk.toNat else 0) * 8192 + (a.toNat - 0x8000)))

/-- R241, R242, R243, R253, R245, R233: MBC1 with the default mode latch: its four registers, bank 0 aliased to 1, the ROM and RAM
banks, an offset beyond the image read as nothing, and, where the cartridge has external RAM, the gate. -/
def Obligations.Mbc1Banks : Prop :=
  ∀ (s : State) (r : Mbc1) (a : Word) (v : Byte), s.cart.controller = .mbc1 r → s.watchpoints = [] → s.cfg.mbc1Mode = .hardware →
    (a.toNat < 0x8000 → ∀ q : Mbc1,
      q = (if a.toNat < 0x2000 then { r with ramEnabled := decide (v.toNat % 16 = 10) }
        else if a.toNat < 0x4000 then { r with bank1 := if v.toNat % 32 = 0 then 1 else BitVec.ofNat 5 v.toNat }
        else if a.toNat < 0x6000 then { r with bank2 := BitVec.ofNat 2 v.toNat }
        else { r with mode := v.getLsbD 0 }) →
      s.memWrite a v = .ok { s with cart := { s.cart with controller := .mbc1 q } }) ∧
    (a.toNat < 0x8000 →
      ∀ off, off = ((if a.toNat < 0x4000 then (if r.mode then r.bank2.toNat * 32 else 0)
        else r.bank2.toNat * 32 + r.bank1.toNat) % s.cart.romBanks) * 0x4000 + a.toNat % 0x4000 →
      (off < s.cart.romLength → s.memRead a = .ok (s.cart.rom.read off)) ∧ (s.cart.romLength ≤ off → s.romByte a = none)) ∧
    (0xA000 ≤ a.toNat → a.toNat < 0xC000 →
      (r.ramEnabled = false → 0 < s.cart.ramSize →
        s.memRead a = .error (.protectionFault a) ∧ s.memWrite a v = .err (.protectionFault a) s) ∧
      (r.ramEnabled = true → 0x2000 ≤ s.cart.ramSize →
        s.target a = .mem .extRam
          ((if r.mode then r.bank2.toNat else 0) % (s.cart.ramSize / 0x2000) * 0x2000 + (a.toNat - 0xA000))) ∧
      (r.ramEnabled = true → 0 < s.cart.ramSize → s.cart.ramSize < 0x2000 →
        s.target a = .mem .extRam ((a.toNat - 0xA000) % s.cart.ramSize)) ∧
      (r.ramEnabled = true → s.cart.ramSize = 0 → s.target a = .unmapped))

/-- R250, R251, R253, R233: MBC5: its registers, the nine-bit bank (0 stays 0 by default), the RAM bank, an offset beyond the image
read as nothing, and, where the cartridge has external RAM, the gate. -/
def Obligations.Mbc5Banks : Prop :=
  ∀ (s : State) (r : Mbc5) (a : Word) (v : Byte), s.cart.controller = .mbc5 r → s.watchpoints = [] →
    s.cfg.mbc5BankZeroToOne = false →
    (a.toNat < 0x8000 → ∀ q : Mbc5,
      q = (if a.toNat < 0x2000 then { r with ramEnabled := decide (v.toNat % 16 = 10) }
        else if a.toNat < 0x3000 then { r with romb0 := v }
        else if a.toNat < 0x4000 then { r with romb1 := BitVec.ofNat 1 v.toNat }
        else if a.toNat < 0x6000 then { r with ramb := BitVec.ofNat 4 v.toNat }
        else r) →
      s.memWrite a v = .ok { s with cart := { s.cart with controller := .mbc5 q } }) ∧
    (a.toNat < 0x8000 →
      ∀ off, off = ((if a.toNat < 0x4000 then 0 else r.romb1.toNat * 256 + r.romb0.toNat) % s.cart.romBanks) * 0x4000 +
        a.toNat % 0x4000 →
      (off < s.cart.romLength → s.memRead a = .ok (s.cart.rom.read off)) ∧ (s.cart.romLength ≤ off → s.romByte a = none)) ∧
    (0xA000 ≤ a.toNat → a.toNat < 0xC000 →
      (r.ramEnabled = false → 0 < s.cart.ramSize →
        s.memRead a = .error (.protectionFault a) ∧ s.memWrite a v = .err (.protectionFault a) s) ∧
      (r.ramEnabled = true → 0x2000 ≤ s.cart.ramSize →
        s.target a = .mem .extRam (r.ramb.toNat % (s.cart.ramSize / 0x2000) * 0x2000 + (a.toNat - 0xA000))) ∧
      (r.ramEnabled = true → 0 < s.cart.ramSize → s.cart.ramSize < 0x2000 →
        s.target a = .mem .extRam ((a.toNat - 0xA000) % s.cart.ramSize)) ∧
      (r.ramEnabled = true → s.cart.ramSize = 0 → s.target a = .unmapped))

/-- R260, R261, R262: a write of FF46 copies 160 bytes of the page into OAM, and in color mode a write of FF55 its length into the
current bank of video RAM, byte after byte inside the write, up to the first access that raises (under `VRAM_LOCK` a source read
obeys the lock and a destination write does not: the model's reading, log 10). Without the lock, and with every source byte
readable, the copy is whole: OAM and video RAM hold the bytes the bus read before it (of a source outside video RAM); nothing
else changes but the written register and the model's draw counter. -/
def Obligations.DmaCopies : Prop :=
  (∀ (s : State) (v : Byte),
      let s0 : State := { s with draw := s.draw + 1, dma := v }
      (0xFF46 : Word) ∉ s.watchpoints →
      CopiesBytes s0 (s.memWrite 0xFF46 v) 160 (fun k => BitVec.ofNat 16 (v.toNat * 256 + k)) (fun k => BitVec.ofNat 16 (0xFE00 + k))
        .oam fun k => k) ∧
  (∀ (s : State) (v : Byte),
      let s0 : State := { s with draw := s.draw + 1, hdma5 := v }
      let len := (v.toNat % 128 + 1) * 16
      let src := (s.hdma1.toNat * 256 + s.hdma2.toNat) / 16 * 16
      let dst := (s.hdma3.toNat * 256 + s.hdma4.toNat) % 0x2000 / 16 * 16
      s.colorMode = true → (0xFF55 : Word) ∉ s.watchpoints →
      CopiesBytes s0 (s.memWrite 0xFF55 v) len (fun k => BitVec.ofNat 16 (src + k))
        (fun k => BitVec.ofNat 16 (0x8000 + (dst + k) % 0x2000)) .vram fun k => s.video.vbk.toNat * 0x2000 + (dst + k) % 0x2000) ∧
  (∀ (s : State) (v : Byte) (b : Nat → Byte),
      let s0 : State := { s with draw := s.draw + 1, dma := v }
      s.cfg.vramLock = false → s.MemoriesWf → s.watchpoints = [] →
      (∀ k, k < 160 → s0.memRead (BitVec.ofNat 16 (v.toNat * 256 + k)) = .ok (b k)) →
      ∃ t, s.memWrite 0xFF46 v = .ok t ∧ (∀ k, k < 160 → t.video.oam.read k = b k) ∧
        (∀ k, 160 ≤ k → t.video.oam.read k = s.video.oam.read k) ∧
        t = { s0 with video := { s0.video with oam := t.video.oam } }) ∧
  (∀ (s : State) (v : Byte) (b : Nat → Byte),
      let s0 : State := { s with draw := s.draw + 1, hdma5 := v }
      let len := (v.toNat % 128 + 1) * 16
      let src := (s.hdma1.toNat * 256 + s.hdma2.toNat) / 16 * 16
      let dst := (s.hdma3.toNat * 256 + s.hdma4.toNat) % 0x2000 / 16 * 16
      s.colorMode = true → s.cfg.vramLock = false → s.MemoriesWf → s.watchpoints = [] →
      (∀ k, k < len → s0.memRead (BitVec.ofNat 16 (src + k)) = .ok (b k) ∧
        (∀ off, s0.target (BitVec.ofNat 16 (src + k)) ≠ .mem .vram off)) →
      ∃ t, s.memWrite 0xFF55 v = .ok t ∧
        (∀ k, k < len → t.video.vram.read (s.video.vbk.toNat * 0x2000 + (dst + k) % 0x2000) = b k) ∧
        (∀ off, (∀ k, k < len → off ≠ s.video.vbk.toNat * 0x2000 + (dst + k) % 0x2000) →
          t.video.vram.read off = s.video.vram.read off) ∧
        t = { s0 with video := { s0.video with vram := t.video.vram } })

/-- R254: save RAM read back after a load of its whole size. -/
def Obligations.SaveRamRoundTrip : Prop :=
  ∀ (s : State) (bs : List Byte), s.MemoriesWf → bs.length = s.cart.ramSize → (s.loadCartSram bs).readCartSram = bs

/-! ## The devices -/

/-- R843, R840, R841, R844: the timer's part of a pump makes as many increments as periods have passed, an overflow reloading TMA
and requesting; DIV reads the cycles since its last write (a difference of integers, the model's reading, log 25), and a write of
any value resets it; a TAC write restarts the period. -/
def Obligations.TimerCounts : Prop :=
  (∀ (s : State) (t p : Nat), p = ([1024, 16, 64, 256] : List Nat).getD (s.timer.tac.toNat % 4) 0 →
      (s.timer.tac.getLsbD 2 = false → s.timerPump t = s) ∧
      (s.timer.tac.getLsbD 2 = true →
        ∃ n, (s.timerPump t).timer.nextTick = s.timer.nextTick + n * p ∧ t < s.timer.nextTick + n * p ∧
          (0 < n → s.timer.nextTick + n * p ≤ t + p) ∧
          (s.timer.tima.toNat + n ≤ 255 →
            (s.timerPump t).timer.tima = s.timer.tima + BitVec.ofNat 8 n ∧ (s.timerPump t).ifr = s.ifr) ∧
          (s.timer.tima.toNat + n = 256 → (s.timerPump t).timer.tima = s.timer.tma) ∧
          (256 ≤ s.timer.tima.toNat + n → (s.timerPump t).ifr = s.ifr ||| 4))) ∧
  (∀ (s : State) (v : Byte), s.watchpoints = [] →
      s.memRead 0xFF04 = .ok (BitVec.ofInt 8 (((s.lastPump : Int) - s.timer.divBase) / 256)) ∧
      (∃ t, s.memWrite 0xFF04 v = .ok t ∧ t.timer = { s.timer with divBase := s.cycles }) ∧
      (∃ t, s.memWrite 0xFF07 v = .ok t ∧ t.timer.tac.toNat = v.toNat % 8 ∧ t.timer.tima = s.timer.tima ∧ t.timer.tma = s.timer.tma ∧
        t.timer.divBase = s.timer.divBase ∧
        (v.getLsbD 2 = true → t.timer.nextTick = s.cycles + ([1024, 16, 64, 256] : List Nat).getD (v.toNat % 4) 0)))

/-- R850, R851: P1 reads the select bits and the pressed buttons of the selected groups, its other bits open; a write sets the
select bits; a button sets and clears its bit of its group, and pressing one requests the Controller interrupt. -/
def Obligations.Buttons : Prop :=
  (∀ (s : State) (v : Byte), s.watchpoints = [] →
      (∃ w, s.memRead 0xFF00 = .ok w ∧
        (∀ k, k < 4 → w.getLsbD k = !((!s.input.select.getLsbD 0 && s.input.directions.getLsbD k) ||
          (!s.input.select.getLsbD 1 && s.input.actions.getLsbD k))) ∧
        w.getLsbD 4 = s.input.select.getLsbD 0 ∧ w.getLsbD 5 = s.input.select.getLsbD 1) ∧
      ∃ t, s.memWrite 0xFF00 v = .ok t ∧ t.input = { s.input with select := v.extractLsb' 4 2 }) ∧
  ∀ (s : State) (button : Button) (k : Nat),
    (s.activateButton button).ifr = s.ifr ||| 0x10 ∧ (s.deactivateButton button).ifr = s.ifr ∧
    ((button, k) ∈ [(Button.right, 0), (.left, 1), (.up, 2), (.down, 3)] →
      (s.activateButton button).input = { s.input with directions := s.input.directions ||| BitVec.twoPow 4 k } ∧
        (s.deactivateButton button).input = { s.input with directions := s.input.directions &&& ~~~BitVec.twoPow 4 k }) ∧
    ((button, k) ∈ [(Button.a, 0), (.b, 1), (.select, 2), (.start, 3)] →
      (s.activateButton button).input = { s.input with actions := s.input.actions ||| BitVec.twoPow 4 k } ∧
        (s.deactivateButton button).input = { s.input with actions := s.input.actions &&& ~~~BitVec.twoPow 4 k })

/-- R821, R822, R122, R123, R908, R125, R261, R909, R124, R902, R904, R952, R842, R916: what a read and a write of IF, IE, the color-only
registers (unmapped in monochrome mode), STAT, LY, wave RAM and the plain registers do (a write of LCDC restarts the timing where
it was stopped); each write changes nothing else but the model's draw counter. DMA reads back. -/
def Obligations.RegisterAccess : Prop :=
  ∀ (s : State) (v : Byte), s.watchpoints = [] →
    ((∃ w, s.memRead 0xFF0F = .ok w ∧ w.extractLsb' 0 5 = s.ifr) ∧
      (∃ t, s.memWrite 0xFF0F v = .ok t ∧ t = { s with ifr := v.extractLsb' 0 5, draw := t.draw }) ∧
      s.memRead 0xFFFF = .ok s.ie ∧ s.memWrite 0xFFFF v = .ok { s with ie := v }) ∧
    (s.colorMode = false → ∀ a ∈ ([0xFF4D, 0xFF4F, 0xFF51, 0xFF52, 0xFF53, 0xFF54, 0xFF55, 0xFF68, 0xFF69, 0xFF6A, 0xFF6B, 0xFF70] : List Word),
      s.target a = .unmapped) ∧
    (s.colorMode = true →
      (∃ w, s.memRead 0xFF4D = .ok w ∧ w.getLsbD 7 = s.doubleSpeed ∧ w.getLsbD 0 = s.speedPrep) ∧
      (∃ t, s.memWrite 0xFF4D v = .ok t ∧ t = { s with speedPrep := v.getLsbD 0, draw := t.draw }) ∧
      (∃ w, s.memRead 0xFF70 = .ok w ∧ w.extractLsb' 0 3 = s.svbk) ∧
      (∃ t, s.memWrite 0xFF70 v = .ok t ∧ t = { s with svbk := v.extractLsb' 0 3, draw := t.draw }) ∧
      (∃ w, s.memRead 0xFF4F = .ok w ∧ w.extractLsb' 0 1 = s.video.vbk) ∧
      (∃ t, s.memWrite 0xFF4F v = .ok t ∧ t = { s with video := { s.video with vbk := v.extractLsb' 0 1 }, draw := t.draw }) ∧
      (∃ t, s.memWrite 0xFF51 v = .ok t ∧ t = { s with hdma1 := v, draw := t.draw }) ∧
      (∃ t, s.memWrite 0xFF52 v = .ok t ∧ t = { s with hdma2 := v, draw := t.draw }) ∧
      (∃ t, s.memWrite 0xFF53 v = .ok t ∧ t = { s with hdma3 := v, draw := t.draw }) ∧
      (∃ t, s.memWrite 0xFF54 v = .ok t ∧ t = { s with hdma4 := v, draw := t.draw }) ∧ s.memRead 0xFF55 = .ok 0xFF) ∧
    (s.colorMode = true →
      let next (p : PaletteIndex) : PaletteIndex := ⟨p.autoIncrement, if p.autoIncrement then p.index + 1 else p.index⟩
      (∃ w, s.memRead 0xFF68 = .ok w ∧ w.getLsbD 7 = s.video.bcps.autoIncrement ∧ w.extractLsb' 0 6 = s.video.bcps.index) ∧
      (∃ t, s.memWrite 0xFF68 v = .ok t ∧
        t = { s with video := { s.video with bcps := ⟨v.getLsbD 7, v.extractLsb' 0 6⟩ }, draw := t.draw }) ∧
      s.memRead 0xFF69 = .ok (s.video.bgPalette.read s.video.bcps.index.toNat) ∧
      (∃ t, s.memWrite 0xFF69 v = .ok t ∧ t = { s with
        video := { s.video with bgPalette := s.video.bgPalette.write s.video.bcps.index.toNat v, bcps := next s.video.bcps }
        draw := t.draw }) ∧
      (∃ w, s.memRead 0xFF6A = .ok w ∧ w.getLsbD 7 = s.video.ocps.autoIncrement ∧ w.extractLsb' 0 6 = s.video.ocps.index) ∧
      (∃ t, s.memWrite 0xFF6A v = .ok t ∧
        t = { s with video := { s.video with ocps := ⟨v.getLsbD 7, v.extractLsb' 0 6⟩ }, draw := t.draw }) ∧
      s.memRead 0xFF6B = .ok (s.video.objPalette.read s.video.ocps.index.toNat) ∧
      (∃ t, s.memWrite 0xFF6B v = .ok t ∧ t = { s with
        video := { s.video with objPalette := s.video.objPalette.write s.video.ocps.index.toNat v, ocps := next s.video.ocps }
        draw := t.draw })) ∧
    (s.memRead 0xFF46 = .ok s.dma ∧
      (∃ t, s.memWrite 0xFF41 v = .ok t ∧ t = { s with video := { s.video with stat := v.extractLsb' 3 4 }, draw := t.draw }) ∧
      (∃ t, s.memWrite 0xFF44 v = .ok t ∧ t = { s with draw := t.draw }) ∧
      (∀ k, k < 16 → s.memRead (0xFF30 + BitVec.ofNat 16 k) = .ok (s.audio.wave.read k) ∧
        ∃ t, s.memWrite (0xFF30 + BitVec.ofNat 16 k) v = .ok t ∧
          t = { s with audio := { s.audio with wave := s.audio.wave.write k v }, draw := t.draw }) ∧
      ∀ p ∈ ([(0xFF05, { s with timer := { s.timer with tima := v } }), (0xFF06, { s with timer := { s.timer with tma := v } }),
          (0xFF40, { s with video := { s.video with
            lcdc := v, videoBase := if s.lcdFrozen = true ∧ v.getLsbD 7 = true then s.cycles else s.video.videoBase } }),
          (0xFF42, { s with video := { s.video with scy := v } }), (0xFF43, { s with video := { s.video with scx := v } }),
          (0xFF45, { s with video := { s.video with lyc := v } }), (0xFF47, { s with video := { s.video with bgp := v } }),
          (0xFF48, { s with video := { s.video with obp0 := v } }), (0xFF49, { s with video := { s.video with obp1 := v } }),
          (0xFF4A, { s with video := { s.video with wy := v } }), (0xFF4B, { s with video := { s.video with wx := v } })]
          : List (Word × State)),
        ∃ t, s.memWrite p.1 v = .ok t ∧ t = { p.2 with draw := t.draw } ∧ t.memRead p.1 = .ok v)

/-- R910, R904, R902: LY and the mode as functions of the pumped cycle value, while the timing runs (`u` an integer, the model's
reading, log 25). -/
def Obligations.LineAndMode : Prop :=
  ∀ s : State, s.watchpoints = [] → s.cfg.lcdOffTiming = .continues →
    let u : Int := (s.lastPump : Int) - s.video.videoBase
    s.memRead 0xFF44 = .ok (BitVec.ofInt 8 (u / 456 % 154)) ∧
    (∃ v : Byte, s.memRead 0xFF41 = .ok v ∧
      v.toNat % 4 = (if 144 ≤ u / 456 % 154 then 1 else if u % 456 < 80 then 2 else if u % 456 < 252 then 3 else 0) ∧
      v.getLsbD 2 = s.video.prevMatch ∧ v.extractLsb' 3 4 = s.video.stat)

/-- R911, R912, R916, R919, R928: at a horizontal-blank start the line, and no other, is rendered into the back framebuffer; with the
LCD off it is the lightest shade; else each pixel is the background's or window's, or that of the first sprite of the line whose
pixel is not transparent, by the priority tables (R923 to R925). At the start of line 144 the framebuffers change roles, and the
host reads the front one. R918, R920 to R923, R926, R927: which sprites are on a line, the tile pixel of the background, the
window and a sprite, and the palettes. -/
def Obligations.Rendering : Prop :=
  (∀ (s : State) (n x : Nat), s.dotAt n = 252 → s.lineAt n < 144 → x < 160 →
      let v := s.video
      let ly := s.lineAt n
      let bg := v.bgPixel s.colorMode x ly
      let u := (s.videoEvent n).video
      u.front = v.front ∧ (∀ y, y ≠ ly → u.back.pixel x y = v.back.pixel x y) ∧
      (v.lcdc.getLsbD 7 = false →
        u.back.pixel x ly = if s.colorMode then cgbRgb s.cfg 0x7FFF else s.cfg.dmgShade0) ∧
      (v.lcdc.getLsbD 7 = true →
        ((∀ q ∈ v.lineSprites s.cfg.spriteLimit ly, v.spriteIndex s.colorMode q x ly = 0) →
          u.back.pixel x ly = v.bgRgb s.cfg s.colorMode bg) ∧
        (∀ (before rest : List Sprite) (q : Sprite), v.lineSprites s.cfg.spriteLimit ly = before ++ q :: rest →
          (∀ p ∈ before, v.spriteIndex s.colorMode p x ly = 0) → v.spriteIndex s.colorMode q x ly ≠ 0 →
          u.back.pixel x ly =
            if bg.index = 0 ∨ (s.colorMode = true ∧ v.lcdc.getLsbD 0 = false) ∨
                (q.attr.getLsbD 7 = false ∧ (s.colorMode = true → bg.attr.getLsbD 7 = false)) then
              v.objRgb s.cfg s.colorMode (v.spriteIndex s.colorMode q x ly) q.attr
            else v.bgRgb s.cfg s.colorMode bg))) ∧
  (∀ (s : State) (n x y : Nat), s.dotAt n = 0 → s.lineAt n = 144 →
      (s.videoEvent n).video.front = s.video.back ∧ (s.videoEvent n).video.back = s.video.front ∧
        (s.videoEvent n).framebufferPixel x y = s.video.back.pixel x y) ∧
  (∀ (v : Video) (limit : Option Nat) (ly : Nat),
      let h := if v.lcdc.getLsbD 2 then 16 else 8
      (v.lcdc.getLsbD 1 = false → v.lineSprites limit ly = []) ∧
      (v.lcdc.getLsbD 1 = true →
        (∀ q, q ∈ v.lineSprites none ly ↔ ∃ i, i < 40 ∧ q = v.spriteCache i ∧ q.y ≤ ly + 16 ∧ ly + 16 < q.y + h) ∧
        (v.lineSprites none ly).Sublist ((List.range 40).map v.spriteCache) ∧
        ∀ k, v.lineSprites (some k) ly = (v.lineSprites none ly).take k) ∧
      ∀ i, (v.spriteCache i).y = (v.oam.read (4 * i)).toNat ∧ (v.spriteCache i).x = (v.oam.read (4 * i + 1)).toNat ∧
        (v.spriteCache i).tile = v.oam.read (4 * i + 2) ∧ (v.spriteCache i).attr = v.oam.read (4 * i + 3)) ∧
  (∀ (v : Video) (color : Bool) (x ly : Nat), x < 160 → ly < 144 →
      let byte (bank a : Nat) : Byte := v.vram.read (bank * 0x2000 + (a - 0x8000))
      let index (bank tile row col : Nat) : Nat :=
        2 * ((byte bank (tile + 2 * row + 1)).toNat / 2 ^ (7 - col) % 2) + (byte bank (tile + 2 * row)).toNat / 2 ^ (7 - col) % 2
      let window := v.lcdc.getLsbD 5 = true ∧ v.wy.toNat ≤ ly ∧ v.wx.toNat ≤ x + 7
      let mx := if window then x + 7 - v.wx.toNat else (x + v.scx.toNat) % 256
      let my := if window then ly - v.wy.toNat else (ly + v.scy.toNat) % 256
      let m := (if v.lcdc.getLsbD (if window then 6 else 3) then 0x9C00 else 0x9800) + my / 8 * 32 + mx / 8
      let n := byte 0 m
      let attr := if color then byte 1 m else 0
      let tile := if v.lcdc.getLsbD 4 then 0x8000 + 16 * n.toNat else if n.toNat < 128 then 0x9000 + 16 * n.toNat else 0x8000 + 16 * n.toNat
      let row := if attr.getLsbD 6 then 7 - my % 8 else my % 8
      let col := if attr.getLsbD 5 then 7 - mx % 8 else mx % 8
      (color = false ∧ v.lcdc.getLsbD 0 = false → v.bgPixel color x ly = ⟨0, 0⟩) ∧
      (¬(color = false ∧ v.lcdc.getLsbD 0 = false) →
        v.bgPixel color x ly = ⟨index (if attr.getLsbD 3 then 1 else 0) tile row col, attr⟩) ∧
      ∀ q : Sprite,
        let tall := v.lcdc.getLsbD 2
        let r0 := ly + 16 - q.y
        let r := if q.attr.getLsbD 6 then (if tall then 15 else 7) - r0 else r0
        let c0 := x + 8 - q.x
        let c := if q.attr.getLsbD 5 then 7 - c0 else c0
        let k := if tall then q.tile.toNat / 2 * 2 + r / 8 else q.tile.toNat
        (¬(q.x ≤ x + 8 ∧ x + 8 < q.x + 8) → v.spriteIndex color q x ly = 0) ∧
        (q.x ≤ x + 8 → x + 8 < q.x + 8 →
          v.spriteIndex color q x ly =
            index (if color = true ∧ q.attr.getLsbD 3 = true then 1 else 0) (0x8000 + 16 * k) (r % 8) c)) ∧
  (∀ (v : Video) (cfg : Config) (p : BgPixel) (i : Nat) (attr : Byte),
      let shade (k : Nat) : Rgb := [cfg.dmgShade0, cfg.dmgShade1, cfg.dmgShade2, cfg.dmgShade3].getD k cfg.dmgShade0
      let word (m : Memory) (pal k : Nat) : Nat := (m.read (8 * pal + 2 * k)).toNat + 256 * (m.read (8 * pal + 2 * k + 1)).toNat
      v.bgRgb cfg false p = shade (v.bgp.toNat / 4 ^ p.index % 4) ∧
      v.objRgb cfg false i attr = shade ((if attr.getLsbD 4 then v.obp1 else v.obp0).toNat / 4 ^ i % 4) ∧
      v.bgRgb cfg true p = cgbRgb cfg (word v.bgPalette (p.attr.toNat % 8) p.index) ∧
      v.objRgb cfg true i attr = cgbRgb cfg (word v.objPalette (attr.toNat % 8) i) ∧
      (cfg.cgbRgb = [] → ∀ w, cgbRgb cfg w =
        ⟨BitVec.ofNat 8 (w % 32 * 255 / 31), BitVec.ofNat 8 (w / 32 % 32 * 255 / 31), BitVec.ofNat 8 (w / 1024 % 32 * 255 / 31)⟩))

/-- R915: an evaluation of the line compare stores the match, and requests exactly on its rising edge with STAT bit 6 set. R911 to
R914: what each video event requests, that the drawing start does nothing, and that every event in the pumped span is handled,
so that each enabled mode entry and the start of line 144 leave their request; a pump over no event only evaluates the compare,
also while the controller is stopped (the model's choice, log 11; `u` is an integer, the model's reading, log 25). -/
def Obligations.VideoInterrupts : Prop :=
  (∀ (s : State) (t : Nat),
      s.lineCompare t = { s with
        ifr := if s.lineAt t = s.video.lyc.toNat ∧ s.video.prevMatch = false ∧ s.video.stat.getLsbD 3 = true then s.ifr ||| 2 else s.ifr
        video := { s.video with prevMatch := decide (s.lineAt t = s.video.lyc.toNat) } }) ∧
  (∀ (s : State) (n : Nat), s.lcdFrozen = false →
      let edge := s.lineAt n = s.video.lyc.toNat ∧ s.video.prevMatch = false ∧ s.video.stat.getLsbD 3 = true
      (s.dotAt n = 0 → (s.videoEvent n).ifr = s.ifr ||| (if s.lineAt n = 144 then 1 else 0) |||
        (if (s.lineAt n = 144 ∧ s.video.stat.getLsbD 1 = true) ∨ (s.lineAt n < 144 ∧ s.video.stat.getLsbD 2 = true) ∨ edge
          then 2 else 0)) ∧
      (s.dotAt n = 252 → s.lineAt n < 144 → (s.videoEvent n).ifr = if s.video.stat.getLsbD 0 = true then s.ifr ||| 2 else s.ifr) ∧
      (s.dotAt n = 80 → s.videoEvent n = s)) ∧
  (∀ (s : State) (t n : Nat), s.lcdFrozen = false → s.lastPump < n → n ≤ t →
      let u : Int := (n : Int) - s.video.videoBase
      (u % 70224 = 144 * 456 → (s.videoPump t).ifr.getLsbD 0 = true) ∧
      ((u % 70224 = 144 * 456 ∧ s.video.stat.getLsbD 1 = true) ∨
          (u % 70224 < 144 * 456 ∧ u % 456 = 0 ∧ s.video.stat.getLsbD 2 = true) ∨
          (u % 70224 < 144 * 456 ∧ u % 456 = 252 ∧ s.video.stat.getLsbD 0 = true) →
        (s.videoPump t).ifr.getLsbD 1 = true)) ∧
  (∀ (s : State) (t : Nat), (∀ n, s.lastPump < n → n ≤ t → ¬s.VideoEventAt n) → s.videoPump t = s.lineCompare t)

/-- R821, R812: a pump clears no request, and changes only requests, the framebuffers and the line-compare match, TIMA and the
timer's next tick, the audio synthesizer's running counters and emitted frames, the pump's own cycle value, and the model's draw
counter: every other field of the state, so every register, control bit, memory and palette, stays. -/
def Obligations.PumpFrame : Prop :=
  ∀ (s : State) (t : Nat),
    let u := s.pump t
    (∀ k, s.ifr.getLsbD k = true → u.ifr.getLsbD k = true) ∧
    u = { s with
          ifr := u.ifr
          video := { s.video with front := u.video.front, back := u.video.back, prevMatch := u.video.prevMatch }
          timer := { s.timer with tima := u.timer.tima, nextTick := u.timer.nextTick }
          audio := u.audio
          lastPump := t
          draw := u.draw } ∧
    u.audio = { s.audio with
          ch1 := { s.audio.ch1 with length := u.audio.ch1.length }
          ch2 := { s.audio.ch2 with length := u.audio.ch2.length }
          ch3 := { s.audio.ch3 with length := u.audio.ch3.length }
          ch4 := { s.audio.ch4 with length := u.audio.ch4.length }
          env1 := u.audio.env1, env2 := u.audio.env2, env4 := u.audio.env4
          sweep := u.audio.sweep, noise := u.audio.noise
          nextSample := u.audio.nextSample, nextLength := u.audio.nextLength
          nextEnvelope := u.audio.nextEnvelope, nextSweep := u.audio.nextSweep
          emitted := u.audio.emitted }

/-- R962, R955, R963: a silent channel's amplitude is 0, a pulse channel of volume 0 is silent, and silence mixes to (0, 0)
whatever the mixer parameter. -/
def Obligations.AudioSilence : Prop :=
  ∀ (u : Audio) (cfg : Config) (t : Nat),
    (u.power = false → u.amplitude1 t = 0 ∧ u.amplitude2 t = 0 ∧ u.amplitude3 t = 0 ∧ u.amplitude4 = 0) ∧
    (u.ch1.on = false → u.amplitude1 t = 0) ∧ (u.ch2.on = false → u.amplitude2 t = 0) ∧
    (u.ch3.on = false → u.amplitude3 t = 0) ∧ (u.ch4.on = false → u.amplitude4 = 0) ∧
    (u.nr14.getLsbD 6 = true → u.ch1.length = 0 → u.amplitude1 t = 0) ∧
    (u.nr24.getLsbD 6 = true → u.ch2.length = 0 → u.amplitude2 t = 0) ∧
    (u.nr34.getLsbD 6 = true → u.ch3.length = 0 → u.amplitude3 t = 0) ∧
    (u.nr44.getLsbD 6 = true → u.ch4.length = 0 → u.amplitude4 = 0) ∧
    (u.nr30.getLsbD 7 = false → u.amplitude3 t = 0) ∧
    (u.env1.volume = 0 → u.amplitude1 t = 0) ∧ (u.env2.volume = 0 → u.amplitude2 t = 0) ∧
    ∀ nr50 nr51 : Byte, audioMix cfg ⟨0, 0, 0, 0, nr50, nr51⟩ = (0, 0)

/-- R961: a write of NR14, NR24, NR34 or NR44 stores the length enable and the frequency bits and, with bit 7 set, triggers the
channel at this cycle value: `on`, `trig`, an expired length counter reloaded, volume and envelope counter, sweep or shift register
as the rule says. R964, R965: NR52 reads the power and the `on` flags; a write clears or sets the power, clearing every `on` flag.
Nothing else changes. -/
def Obligations.AudioControl : Prop :=
  ∀ (s : State) (v : Byte), s.watchpoints = [] →
    let u := s.audio
    let on (c : Channel) (full : Nat) : Channel := if v.getLsbD 7 then ⟨true, if c.length = 0 then full else c.length, s.cycles⟩ else c
    let start (e : Envelope) (nr : Byte) : Envelope := if v.getLsbD 7 then ⟨nr.extractLsb' 4 4, 0⟩ else e
    (∃ t, s.memWrite 0xFF14 v = .ok t ∧ t = { s with
      draw := t.draw
      audio := { u with
        nr14 := v &&& 0x47, ch1 := on u.ch1 64, env1 := start u.env1 u.nr12
        sweep := if v.getLsbD 7 then ⟨v.extractLsb' 0 3 ++ u.nr13, 0⟩ else u.sweep } }) ∧
    (∃ t, s.memWrite 0xFF19 v = .ok t ∧ t = { s with
      draw := t.draw, audio := { u with nr24 := v &&& 0x47, ch2 := on u.ch2 64, env2 := start u.env2 u.nr22 } }) ∧
    (∃ t, s.memWrite 0xFF1E v = .ok t ∧ t = { s with draw := t.draw, audio := { u with nr34 := v &&& 0x47, ch3 := on u.ch3 256 } }) ∧
    (∃ t, s.memWrite 0xFF23 v = .ok t ∧ t = { s with
      draw := t.draw
      audio := { u with
        nr44 := v &&& 0x40, ch4 := on u.ch4 64, env4 := start u.env4 u.nr42
        noise := if v.getLsbD 7 then ⟨0x7FFF, 0⟩ else u.noise } }) ∧
    (∃ w, s.memRead 0xFF26 = .ok w ∧ w.getLsbD 7 = u.power ∧ w.getLsbD 0 = u.ch1.on ∧ w.getLsbD 1 = u.ch2.on ∧
      w.getLsbD 2 = u.ch3.on ∧ w.getLsbD 3 = u.ch4.on) ∧
    (∃ t, s.memWrite 0xFF26 v = .ok t ∧ t = { s with
      draw := t.draw
      audio :=
        if v.getLsbD 7 then { u with power := true }
        else { u with
          power := false
          ch1 := { u.ch1 with on := false }
          ch2 := { u.ch2 with on := false }
          ch3 := { u.ch3 with on := false }
          ch4 := { u.ch4 with on := false } } })

/-- R953, R956 to R958, R960, R963: a pump handles the audio timers' edges up to its cycle value in time order, at one cycle value in
the order sample-output, length, envelope, sweep, and stops beyond it. A length edge counts the enabled counters down; an envelope
edge moves each volume when its period is full; a sweep edge moves channel 1's frequency, clamped at 2047; a sample edge brings
the shift register to the cycle value (clocks counted from the trigger, those applied never undone: log 16) and emits the mix
and the four amplitudes. R955, R959, R960: the amplitude of a channel that is not silent. The default mix is exact, in units of 1/480
(the model's choice, log 13). -/
def Obligations.AudioSteps : Prop :=
  (∀ (u : Audio) (cfg : Config) (t : Nat),
      t < (u.pump cfg t).nextSample ∧ t < (u.pump cfg t).nextLength ∧ t < (u.pump cfg t).nextEnvelope ∧
        t < (u.pump cfg t).nextSweep ∧
        (∃ n, (u.pump cfg t).nextLength = u.nextLength + n * 16384) ∧ (∃ n, (u.pump cfg t).nextSweep = u.nextSweep + n * 32768) ∧
        (∃ n, (u.pump cfg t).nextEnvelope = u.nextEnvelope + n * 65536) ∧
        ∃ n, (u.pump cfg t).nextSample = u.nextSample + n * samplePeriod cfg) ∧
  (∀ (u : Audio) (cfg : Config) (t : Nat),
      let down (c : Channel) (nr : Byte) : Channel := { c with length := if nr.getLsbD 6 then c.length - 1 else c.length }
      let move (e : Envelope) (nr : Byte) : Envelope :=
        if nr.toNat % 8 = 0 then e
        else if e.counter + 1 < nr.toNat % 8 then { e with counter := e.counter + 1 }
        else ⟨if nr.getLsbD 3 then (if e.volume = 15 then 15 else e.volume + 1) else (if e.volume = 0 then 0 else e.volume - 1), 0⟩
      let p := u.nr10.toNat / 16 % 8
      let shift := u.nr10.toNat % 8
      let f := u.sweep.freq.toNat
      let u1 := u.advanceNoise u.nextSample
      let mix := audioMix cfg ⟨u1.amplitude1 u.nextSample, u1.amplitude2 u.nextSample, u1.amplitude3 u.nextSample, u1.amplitude4,
        u.nr50, u.nr51⟩
      (t < u.nextSample → t < u.nextLength → t < u.nextEnvelope → t < u.nextSweep → u.pump cfg t = u) ∧
      (u.nextSample ≤ t → u.nextSample ≤ u.nextLength → u.nextSample ≤ u.nextEnvelope → u.nextSample ≤ u.nextSweep →
        u.pump cfg t = ({ u1 with
          nextSample := u.nextSample + samplePeriod cfg
          emitted := ⟨mix.1, mix.2, u1.amplitude1 u.nextSample, u1.amplitude2 u.nextSample, u1.amplitude3 u.nextSample,
            u1.amplitude4⟩ :: u.emitted } : Audio).pump cfg t) ∧
      (u.nextLength ≤ t → u.nextLength < u.nextSample → u.nextLength ≤ u.nextEnvelope → u.nextLength ≤ u.nextSweep →
        u.pump cfg t = ({ u with
          ch1 := down u.ch1 u.nr14, ch2 := down u.ch2 u.nr24, ch3 := down u.ch3 u.nr34, ch4 := down u.ch4 u.nr44
          nextLength := u.nextLength + 16384 } : Audio).pump cfg t) ∧
      (u.nextEnvelope ≤ t → u.nextEnvelope < u.nextSample → u.nextEnvelope < u.nextLength → u.nextEnvelope ≤ u.nextSweep →
        u.pump cfg t = ({ u with
          env1 := move u.env1 u.nr12, env2 := move u.env2 u.nr22, env4 := move u.env4 u.nr42
          nextEnvelope := u.nextEnvelope + 65536 } : Audio).pump cfg t) ∧
      (u.nextSweep ≤ t → u.nextSweep < u.nextSample → u.nextSweep < u.nextLength → u.nextSweep < u.nextEnvelope →
        u.pump cfg t = ({ u with
          sweep :=
            if p = 0 ∨ shift = 0 then u.sweep
            else if u.sweep.counter + 1 < p then { u.sweep with counter := u.sweep.counter + 1 }
            else ⟨BitVec.ofNat 11 (if u.nr10.getLsbD 3 then f - f / 2 ^ shift else min (f + f / 2 ^ shift) 2047), 0⟩
          nextSweep := u.nextSweep + 32768 } : Audio).pump cfg t)) ∧
  (∀ (u : Audio) (t : Nat),
      let n := (t - u.ch4.trig) /
        (([8, 16, 32, 48, 64, 80, 96, 112] : List Nat).getD (u.nr43.toNat % 8) 0 * 2 ^ (u.nr43.toNat / 16))
      u.advanceNoise t = { u with
        noise := ⟨(lfsrClock (u.nr43.getLsbD 3))^[n - u.noise.clocks] u.noise.lfsr, max n u.noise.clocks⟩ }) ∧
  (∀ (narrow : Bool) (l : BitVec 15) (k : Nat), k < 15 →
      (lfsrClock narrow l).getLsbD k =
        if k = 14 ∨ (narrow = true ∧ k = 6) then l.getLsbD 0 ^^ l.getLsbD 1 else l.getLsbD (k + 1)) ∧
  (∀ (u : Audio) (t : Nat), u.power = true →
      let duty : List (List Nat) := [[0, 0, 0, 0, 0, 0, 0, 1], [1, 0, 0, 0, 0, 0, 0, 1], [1, 0, 0, 0, 0, 1, 1, 1], [0, 1, 1, 1, 1, 1, 1, 0]]
      let step (trig f : Nat) : Nat := (t - trig) / (4 * (2048 - f)) % 8
      let freq (nr4 nr3 : Byte) : Nat := nr4.toNat % 8 * 256 + nr3.toNat
      let sounds (c : Channel) (nr4 : Byte) : Prop := c.on = true ∧ (nr4.getLsbD 6 = true → c.length ≠ 0)
      (sounds u.ch1 u.nr14 → u.amplitude1 t =
        (duty.getD (u.nr11.toNat / 64) []).getD (step u.ch1.trig u.sweep.freq.toNat) 0 * u.env1.volume.toNat) ∧
      (sounds u.ch2 u.nr24 → u.amplitude2 t =
        (duty.getD (u.nr21.toNat / 64) []).getD (step u.ch2.trig (freq u.nr24 u.nr23)) 0 * u.env2.volume.toNat) ∧
      (sounds u.ch3 u.nr34 → u.nr30.getLsbD 7 = true →
        let k := (t - u.ch3.trig) / (2 * (2048 - freq u.nr34 u.nr33)) % 32
        let b := (u.wave.read (k / 2)).toNat
        u.amplitude3 t =
          (if k % 2 = 0 then b / 16 else b % 16) / 2 ^ ([4, 0, 1, 2] : List Nat).getD (u.nr32.toNat / 32 % 4) 0) ∧
      (sounds u.ch4 u.nr44 → u.amplitude4 = if u.noise.lfsr.getLsbD 0 then 0 else u.env4.volume.toNat)) ∧
  (∀ (cfg : Config) (m : MixInput), cfg.audioMix = [] →
      let side (k : Nat) : Nat :=
        (if m.nr51.getLsbD k then m.a1 else 0) + (if m.nr51.getLsbD (k + 1) then m.a2 else 0) +
          (if m.nr51.getLsbD (k + 2) then m.a3 else 0) + (if m.nr51.getLsbD (k + 3) then m.a4 else 0)
      audioMix cfg m = (side 4 * (m.nr50.toNat / 16 % 8 + 1), side 0 * (m.nr50.toNat % 8 + 1)))
end

