-- ==== Sys2Proof/Laws/Memory.lean ====
section
/-! SUPPORT. One memory: a read after a write, the other offsets, and the canonical form every operation keeps. -/

namespace Sys2Proof.Machine

theorem findCell_putCell_same (a : Nat) (v : Byte) (l : List Host.Cell) : findCell a (putCell a v l) = some v := by
  induction l with
  | nil => simp [putCell, findCell]
  | cons c t ih =>
    obtain ⟨k, w⟩ := c
    simp only [putCell]
    split
    · simp [findCell]
    · split
      · simp [findCell]
      · simp only [findCell]
        rw [if_neg (by omega), ih]

theorem findCell_putCell_ne {a b : Nat} (v : Byte) (l : List Host.Cell) (h : b ≠ a) :
    findCell b (putCell a v l) = findCell b l := by
  induction l with
  | nil => simp [putCell, findCell, h.symm]
  | cons c t ih =>
    obtain ⟨k, w⟩ := c
    simp only [putCell]
    split
    · simp [findCell, h.symm]
    · split
      · rename_i hk
        simp only [findCell]
        rw [if_neg h.symm, if_neg (by omega)]
      · simp only [findCell, ih]

theorem findCell_eraseCell_ne {a b : Nat} (l : List Host.Cell) (h : b ≠ a) :
    findCell b (eraseCell a l) = findCell b l := by
  induction l with
  | nil => rfl
  | cons c t ih =>
    obtain ⟨k, w⟩ := c
    simp only [eraseCell]
    split
    · rename_i hk
      simp only [findCell]
      rw [if_neg (by omega)]
    · simp only [findCell, ih]

theorem risingFrom_mono {a b : Nat} (l : List Host.Cell) (h : a ≤ b) (hl : risingFrom b l = true) : risingFrom a l = true := by
  cases l with
  | nil => rfl
  | cons c t =>
    simp only [risingFrom, Bool.and_eq_true, decide_eq_true_eq] at hl ⊢
    exact ⟨by omega, hl.2⟩

theorem findCell_none_of_rising {a b : Nat} (l : List Host.Cell) (hl : risingFrom b l = true) (h : a < b) :
    findCell a l = none := by
  induction l generalizing b with
  | nil => rfl
  | cons c t ih =>
    simp only [risingFrom, Bool.and_eq_true, decide_eq_true_eq] at hl
    simp only [findCell]
    rw [if_neg (by omega)]
    exact ih hl.2 (by omega)

theorem findCell_eraseCell_same {a b : Nat} (l : List Host.Cell) (hl : risingFrom b l = true) :
    findCell a (eraseCell a l) = none := by
  induction l generalizing b with
  | nil => rfl
  | cons c t ih =>
    simp only [risingFrom, Bool.and_eq_true, decide_eq_true_eq] at hl
    simp only [eraseCell]
    split
    · exact findCell_none_of_rising t hl.2 (by omega)
    · rename_i hk
      simp only [findCell]
      rw [if_neg hk]
      exact ih hl.2

theorem risingFrom_putCell {a b : Nat} (v : Byte) (l : List Host.Cell) (hl : risingFrom b l = true) (h : b ≤ a) :
    risingFrom b (putCell a v l) = true := by
  induction l generalizing b with
  | nil => simp [putCell, risingFrom, h]
  | cons c t ih =>
    obtain ⟨k, w⟩ := c
    simp only [risingFrom, Bool.and_eq_true, decide_eq_true_eq] at hl
    simp only [putCell]
    split
    · simp only [risingFrom, Bool.and_eq_true, decide_eq_true_eq]
      exact ⟨h, by omega, hl.2⟩
    · split
      · simp only [risingFrom, Bool.and_eq_true, decide_eq_true_eq]
        rename_i hk
        exact ⟨h, by rw [hk]; exact hl.2⟩
      · simp only [risingFrom, Bool.and_eq_true, decide_eq_true_eq]
        exact ⟨hl.1, ih hl.2 (by omega)⟩

theorem risingFrom_eraseCell {a b : Nat} (l : List Host.Cell) (hl : risingFrom b l = true) :
    risingFrom b (eraseCell a l) = true := by
  induction l generalizing b with
  | nil => rfl
  | cons c t ih =>
    have hl' := hl
    simp only [risingFrom, Bool.and_eq_true, decide_eq_true_eq] at hl
    simp only [eraseCell]
    split
    · exact risingFrom_mono t (by omega) hl.2
    · simp only [risingFrom, Bool.and_eq_true, decide_eq_true_eq]
      exact ⟨hl.1, ih hl.2⟩

theorem mem_putCell {a : Nat} {v : Byte} {l : List Host.Cell} {c : Host.Cell} (h : c ∈ putCell a v l) : c = (a, v) ∨ c ∈ l := by
  induction l with
  | nil => simpa [putCell] using h
  | cons d t ih =>
    obtain ⟨k, w⟩ := d
    simp only [putCell] at h
    split at h
    · simpa using h
    · split at h
      · simp only [List.mem_cons] at h ⊢
        exact h.imp_right Or.inr
      · simp only [List.mem_cons] at h ⊢
        rcases h with h | h
        · exact Or.inr (Or.inl h)
        · exact (ih h).imp_right Or.inr

theorem mem_eraseCell {a : Nat} {l : List Host.Cell} {c : Host.Cell} (h : c ∈ eraseCell a l) : c ∈ l := by
  induction l with
  | nil => exact h
  | cons d t ih =>
    simp only [eraseCell] at h
    split at h
    · exact List.mem_cons_of_mem _ h
    · simp only [List.mem_cons] at h ⊢
      exact h.imp_right ih

@[simp] theorem Memory.unlisted_write (m : Memory) (a : Nat) (v : Byte) (b : Nat) : (m.write a v).unlisted b = m.unlisted b := rfl

/-- A read of the written offset gives the byte written. -/
theorem Memory.read_write_same (m : Memory) (a : Nat) (v : Byte) (h : m.wf = true) : (m.write a v).read a = v := by
  simp only [Memory.wf, Bool.and_eq_true] at h
  simp only [Memory.read, Memory.unlisted_write]
  simp only [Memory.write]
  split
  · rename_i hv
    rw [findCell_eraseCell_same m.cells h.1, Option.getD_none, hv]
  · rw [findCell_putCell_same, Option.getD_some]

/-- A write leaves every other offset alone. -/
theorem Memory.read_write_ne (m : Memory) {a b : Nat} (v : Byte) (h : b ≠ a) : (m.write a v).read b = m.read b := by
  simp only [Memory.read, Memory.unlisted_write]
  simp only [Memory.write]
  split
  · rw [findCell_eraseCell_ne m.cells h]
  · rw [findCell_putCell_ne v m.cells h]

/-- A write keeps the canonical form. -/
theorem Memory.wf_write (m : Memory) (a : Nat) (v : Byte) (h : m.wf = true) : (m.write a v).wf = true := by
  simp only [Memory.wf, Bool.and_eq_true, List.all_eq_true, decide_eq_true_eq] at h ⊢
  obtain ⟨hr, ha⟩ := h
  simp only [Memory.unlisted_write]
  simp only [Memory.write]
  split
  · exact ⟨risingFrom_eraseCell m.cells hr, fun c hc => ha c (mem_eraseCell hc)⟩
  · rename_i hv
    refine ⟨risingFrom_putCell v m.cells hr (Nat.zero_le _), fun c hc => ?_⟩
    rcases mem_putCell hc with rfl | hc
    · exact hv
    · exact ha c hc

/-- An empty memory is in the canonical form. -/
@[simp] theorem Memory.wf_blank (f : Fill) : (Memory.blank f).wf = true := rfl

/-- Loading bytes keeps the canonical form. -/
theorem Memory.wf_load (bs : List Byte) (m : Memory) (a : Nat) (h : m.wf = true) : (m.load a bs).wf = true := by
  induction bs generalizing m a with
  | nil => exact h
  | cons b t ih => exact ih _ _ (m.wf_write a b h)

theorem Memory.read_load_before (bs : List Byte) (m : Memory) {a b : Nat} (h : b < a) : (m.load a bs).read b = m.read b := by
  induction bs generalizing m a with
  | nil => rfl
  | cons c t ih =>
    show ((m.write a c).load (a + 1) t).read b = _
    rw [ih _ (by omega), m.read_write_ne c (by omega)]

/-- Loaded bytes are read back. -/
theorem Memory.read_load (bs : List Byte) (m : Memory) (a i : Nat) (h : m.wf = true) (hi : i < bs.length) :
    (m.load a bs).read (a + i) = bs[i] := by
  induction bs generalizing m a i with
  | nil => simp at hi
  | cons c t ih =>
    show ((m.write a c).load (a + 1) t).read (a + i) = _
    cases i with
    | zero => simpa [Memory.read_load_before t _ (Nat.lt_succ_self a)] using m.read_write_same a c h
    | succ j =>
      have := ih (m.write a c) (a + 1) j (m.wf_write a c h) (by simpa using hi)
      simpa [Nat.add_assoc, Nat.add_comm 1 j] using this

/-- What every offset reads after a write. -/
theorem Memory.write_read (m : Memory) (a : Nat) (v : Byte) (b : Nat) (h : m.wf = true) :
    (m.write a v).read b = if b = a then v else m.read b := by
  split
  · rename_i hb
    rw [hb, m.read_write_same a v h]
  · rename_i hb
    exact m.read_write_ne v hb

end Sys2Proof.Machine
end

