-- ==== Sys2Proof/Laws/State.lean ====
section
/-! SUPPORT. One lemma per field and update of the state, and the registers under each register update. -/

namespace Sys2Proof.Machine

@[simp] theorem State.setReg_ime (s : State) (r : Reg8) (v : Byte) : (s.setReg r v).ime = s.ime := by cases r <;> rfl
@[simp] theorem State.setReg_eiPending (s : State) (r : Reg8) (v : Byte) : (s.setReg r v).eiPending = s.eiPending := by cases r <;> rfl
@[simp] theorem State.setReg_halted (s : State) (r : Reg8) (v : Byte) : (s.setReg r v).halted = s.halted := by cases r <;> rfl
@[simp] theorem State.setReg_doubleSpeed (s : State) (r : Reg8) (v : Byte) : (s.setReg r v).doubleSpeed = s.doubleSpeed := by cases r <;> rfl
@[simp] theorem State.setReg_speedPrep (s : State) (r : Reg8) (v : Byte) : (s.setReg r v).speedPrep = s.speedPrep := by cases r <;> rfl
@[simp] theorem State.setReg_cycles (s : State) (r : Reg8) (v : Byte) : (s.setReg r v).cycles = s.cycles := by cases r <;> rfl
@[simp] theorem State.setReg_lastPump (s : State) (r : Reg8) (v : Byte) : (s.setReg r v).lastPump = s.lastPump := by cases r <;> rfl
@[simp] theorem State.setReg_fault (s : State) (r : Reg8) (v : Byte) : (s.setReg r v).fault = s.fault := by cases r <;> rfl
@[simp] theorem State.setReg_debugHalt (s : State) (r : Reg8) (v : Byte) : (s.setReg r v).debugHalt = s.debugHalt := by cases r <;> rfl
@[simp] theorem State.setReg_stepResult (s : State) (r : Reg8) (v : Byte) : (s.setReg r v).stepResult = s.stepResult := by cases r <;> rfl
@[simp] theorem State.setReg_breakpoints (s : State) (r : Reg8) (v : Byte) : (s.setReg r v).breakpoints = s.breakpoints := by cases r <;> rfl
@[simp] theorem State.setReg_intBreakpoints (s : State) (r : Reg8) (v : Byte) : (s.setReg r v).intBreakpoints = s.intBreakpoints := by cases r <;> rfl
@[simp] theorem State.setReg_watchpoints (s : State) (r : Reg8) (v : Byte) : (s.setReg r v).watchpoints = s.watchpoints := by cases r <;> rfl
@[simp] theorem State.setReg_pedantic (s : State) (r : Reg8) (v : Byte) : (s.setReg r v).pedantic = s.pedantic := by cases r <;> rfl
@[simp] theorem State.setReg_colorMode (s : State) (r : Reg8) (v : Byte) : (s.setReg r v).colorMode = s.colorMode := by cases r <;> rfl
@[simp] theorem State.setReg_cfg (s : State) (r : Reg8) (v : Byte) : (s.setReg r v).cfg = s.cfg := by cases r <;> rfl
@[simp] theorem State.setReg_ie (s : State) (r : Reg8) (v : Byte) : (s.setReg r v).ie = s.ie := by cases r <;> rfl
@[simp] theorem State.setReg_ifr (s : State) (r : Reg8) (v : Byte) : (s.setReg r v).ifr = s.ifr := by cases r <;> rfl
@[simp] theorem State.setReg_svbk (s : State) (r : Reg8) (v : Byte) : (s.setReg r v).svbk = s.svbk := by cases r <;> rfl
@[simp] theorem State.setReg_dma (s : State) (r : Reg8) (v : Byte) : (s.setReg r v).dma = s.dma := by cases r <;> rfl
@[simp] theorem State.setReg_hdma1 (s : State) (r : Reg8) (v : Byte) : (s.setReg r v).hdma1 = s.hdma1 := by cases r <;> rfl
@[simp] theorem State.setReg_hdma2 (s : State) (r : Reg8) (v : Byte) : (s.setReg r v).hdma2 = s.hdma2 := by cases r <;> rfl
@[simp] theorem State.setReg_hdma3 (s : State) (r : Reg8) (v : Byte) : (s.setReg r v).hdma3 = s.hdma3 := by cases r <;> rfl
@[simp] theorem State.setReg_hdma4 (s : State) (r : Reg8) (v : Byte) : (s.setReg r v).hdma4 = s.hdma4 := by cases r <;> rfl
@[simp] theorem State.setReg_hdma5 (s : State) (r : Reg8) (v : Byte) : (s.setReg r v).hdma5 = s.hdma5 := by cases r <;> rfl
@[simp] theorem State.setReg_wram (s : State) (r : Reg8) (v : Byte) : (s.setReg r v).wram = s.wram := by cases r <;> rfl
@[simp] theorem State.setReg_hram (s : State) (r : Reg8) (v : Byte) : (s.setReg r v).hram = s.hram := by cases r <;> rfl
@[simp] theorem State.setReg_cart (s : State) (r : Reg8) (v : Byte) : (s.setReg r v).cart = s.cart := by cases r <;> rfl
@[simp] theorem State.setReg_timer (s : State) (r : Reg8) (v : Byte) : (s.setReg r v).timer = s.timer := by cases r <;> rfl
@[simp] theorem State.setReg_input (s : State) (r : Reg8) (v : Byte) : (s.setReg r v).input = s.input := by cases r <;> rfl
@[simp] theorem State.setReg_video (s : State) (r : Reg8) (v : Byte) : (s.setReg r v).video = s.video := by cases r <;> rfl
@[simp] theorem State.setReg_audio (s : State) (r : Reg8) (v : Byte) : (s.setReg r v).audio = s.audio := by cases r <;> rfl
@[simp] theorem State.setReg_draw (s : State) (r : Reg8) (v : Byte) : (s.setReg r v).draw = s.draw := by cases r <;> rfl

@[simp] theorem State.setFlagByte_ime (s : State) (v : Byte) : (s.setFlagByte v).ime = s.ime := rfl
@[simp] theorem State.setFlagByte_eiPending (s : State) (v : Byte) : (s.setFlagByte v).eiPending = s.eiPending := rfl
@[simp] theorem State.setFlagByte_halted (s : State) (v : Byte) : (s.setFlagByte v).halted = s.halted := rfl
@[simp] theorem State.setFlagByte_doubleSpeed (s : State) (v : Byte) : (s.setFlagByte v).doubleSpeed = s.doubleSpeed := rfl
@[simp] theorem State.setFlagByte_speedPrep (s : State) (v : Byte) : (s.setFlagByte v).speedPrep = s.speedPrep := rfl
@[simp] theorem State.setFlagByte_cycles (s : State) (v : Byte) : (s.setFlagByte v).cycles = s.cycles := rfl
@[simp] theorem State.setFlagByte_lastPump (s : State) (v : Byte) : (s.setFlagByte v).lastPump = s.lastPump := rfl
@[simp] theorem State.setFlagByte_fault (s : State) (v : Byte) : (s.setFlagByte v).fault = s.fault := rfl
@[simp] theorem State.setFlagByte_debugHalt (s : State) (v : Byte) : (s.setFlagByte v).debugHalt = s.debugHalt := rfl
@[simp] theorem State.setFlagByte_stepResult (s : State) (v : Byte) : (s.setFlagByte v).stepResult = s.stepResult := rfl
@[simp] theorem State.setFlagByte_breakpoints (s : State) (v : Byte) : (s.setFlagByte v).breakpoints = s.breakpoints := rfl
@[simp] theorem State.setFlagByte_intBreakpoints (s : State) (v : Byte) : (s.setFlagByte v).intBreakpoints = s.intBreakpoints := rfl
@[simp] theorem State.setFlagByte_watchpoints (s : State) (v : Byte) : (s.setFlagByte v).watchpoints = s.watchpoints := rfl
@[simp] theorem State.setFlagByte_pedantic (s : State) (v : Byte) : (s.setFlagByte v).pedantic = s.pedantic := rfl
@[simp] theorem State.setFlagByte_colorMode (s : State) (v : Byte) : (s.setFlagByte v).colorMode = s.colorMode := rfl
@[simp] theorem State.setFlagByte_cfg (s : State) (v : Byte) : (s.setFlagByte v).cfg = s.cfg := rfl
@[simp] theorem State.setFlagByte_ie (s : State) (v : Byte) : (s.setFlagByte v).ie = s.ie := rfl
@[simp] theorem State.setFlagByte_ifr (s : State) (v : Byte) : (s.setFlagByte v).ifr = s.ifr := rfl
@[simp] theorem State.setFlagByte_svbk (s : State) (v : Byte) : (s.setFlagByte v).svbk = s.svbk := rfl
@[simp] theorem State.setFlagByte_dma (s : State) (v : Byte) : (s.setFlagByte v).dma = s.dma := rfl
@[simp] theorem State.setFlagByte_hdma1 (s : State) (v : Byte) : (s.setFlagByte v).hdma1 = s.hdma1 := rfl
@[simp] theorem State.setFlagByte_hdma2 (s : State) (v : Byte) : (s.setFlagByte v).hdma2 = s.hdma2 := rfl
@[simp] theorem State.setFlagByte_hdma3 (s : State) (v : Byte) : (s.setFlagByte v).hdma3 = s.hdma3 := rfl
@[simp] theorem State.setFlagByte_hdma4 (s : State) (v : Byte) : (s.setFlagByte v).hdma4 = s.hdma4 := rfl
@[simp] theorem State.setFlagByte_hdma5 (s : State) (v : Byte) : (s.setFlagByte v).hdma5 = s.hdma5 := rfl
@[simp] theorem State.setFlagByte_wram (s : State) (v : Byte) : (s.setFlagByte v).wram = s.wram := rfl
@[simp] theorem State.setFlagByte_hram (s : State) (v : Byte) : (s.setFlagByte v).hram = s.hram := rfl
@[simp] theorem State.setFlagByte_cart (s : State) (v : Byte) : (s.setFlagByte v).cart = s.cart := rfl
@[simp] theorem State.setFlagByte_timer (s : State) (v : Byte) : (s.setFlagByte v).timer = s.timer := rfl
@[simp] theorem State.setFlagByte_input (s : State) (v : Byte) : (s.setFlagByte v).input = s.input := rfl
@[simp] theorem State.setFlagByte_video (s : State) (v : Byte) : (s.setFlagByte v).video = s.video := rfl
@[simp] theorem State.setFlagByte_audio (s : State) (v : Byte) : (s.setFlagByte v).audio = s.audio := rfl
@[simp] theorem State.setFlagByte_draw (s : State) (v : Byte) : (s.setFlagByte v).draw = s.draw := rfl

@[simp] theorem State.setFlags_ime (s : State) (f : Flags) : (s.setFlags f).ime = s.ime := rfl
@[simp] theorem State.setFlags_eiPending (s : State) (f : Flags) : (s.setFlags f).eiPending = s.eiPending := rfl
@[simp] theorem State.setFlags_halted (s : State) (f : Flags) : (s.setFlags f).halted = s.halted := rfl
@[simp] theorem State.setFlags_doubleSpeed (s : State) (f : Flags) : (s.setFlags f).doubleSpeed = s.doubleSpeed := rfl
@[simp] theorem State.setFlags_speedPrep (s : State) (f : Flags) : (s.setFlags f).speedPrep = s.speedPrep := rfl
@[simp] theorem State.setFlags_cycles (s : State) (f : Flags) : (s.setFlags f).cycles = s.cycles := rfl
@[simp] theorem State.setFlags_lastPump (s : State) (f : Flags) : (s.setFlags f).lastPump = s.lastPump := rfl
@[simp] theorem State.setFlags_fault (s : State) (f : Flags) : (s.setFlags f).fault = s.fault := rfl
@[simp] theorem State.setFlags_debugHalt (s : State) (f : Flags) : (s.setFlags f).debugHalt = s.debugHalt := rfl
@[simp] theorem State.setFlags_stepResult (s : State) (f : Flags) : (s.setFlags f).stepResult = s.stepResult := rfl
@[simp] theorem State.setFlags_breakpoints (s : State) (f : Flags) : (s.setFlags f).breakpoints = s.breakpoints := rfl
@[simp] theorem State.setFlags_intBreakpoints (s : State) (f : Flags) : (s.setFlags f).intBreakpoints = s.intBreakpoints := rfl
@[simp] theorem State.setFlags_watchpoints (s : State) (f : Flags) : (s.setFlags f).watchpoints = s.watchpoints := rfl
@[simp] theorem State.setFlags_pedantic (s : State) (f : Flags) : (s.setFlags f).pedantic = s.pedantic := rfl
@[simp] theorem State.setFlags_colorMode (s : State) (f : Flags) : (s.setFlags f).colorMode = s.colorMode := rfl
@[simp] theorem State.setFlags_cfg (s : State) (f : Flags) : (s.setFlags f).cfg = s.cfg := rfl
@[simp] theorem State.setFlags_ie (s : State) (f : Flags) : (s.setFlags f).ie = s.ie := rfl
@[simp] theorem State.setFlags_ifr (s : State) (f : Flags) : (s.setFlags f).ifr = s.ifr := rfl
@[simp] theorem State.setFlags_svbk (s : State) (f : Flags) : (s.setFlags f).svbk = s.svbk := rfl
@[simp] theorem State.setFlags_dma (s : State) (f : Flags) : (s.setFlags f).dma = s.dma := rfl
@[simp] theorem State.setFlags_hdma1 (s : State) (f : Flags) : (s.setFlags f).hdma1 = s.hdma1 := rfl
@[simp] theorem State.setFlags_hdma2 (s : State) (f : Flags) : (s.setFlags f).hdma2 = s.hdma2 := rfl
@[simp] theorem State.setFlags_hdma3 (s : State) (f : Flags) : (s.setFlags f).hdma3 = s.hdma3 := rfl
@[simp] theorem State.setFlags_hdma4 (s : State) (f : Flags) : (s.setFlags f).hdma4 = s.hdma4 := rfl
@[simp] theorem State.setFlags_hdma5 (s : State) (f : Flags) : (s.setFlags f).hdma5 = s.hdma5 := rfl
@[simp] theorem State.setFlags_wram (s : State) (f : Flags) : (s.setFlags f).wram = s.wram := rfl
@[simp] theorem State.setFlags_hram (s : State) (f : Flags) : (s.setFlags f).hram = s.hram := rfl
@[simp] theorem State.setFlags_cart (s : State) (f : Flags) : (s.setFlags f).cart = s.cart := rfl
@[simp] theorem State.setFlags_timer (s : State) (f : Flags) : (s.setFlags f).timer = s.timer := rfl
@[simp] theorem State.setFlags_input (s : State) (f : Flags) : (s.setFlags f).input = s.input := rfl
@[simp] theorem State.setFlags_video (s : State) (f : Flags) : (s.setFlags f).video = s.video := rfl
@[simp] theorem State.setFlags_audio (s : State) (f : Flags) : (s.setFlags f).audio = s.audio := rfl
@[simp] theorem State.setFlags_draw (s : State) (f : Flags) : (s.setFlags f).draw = s.draw := rfl

@[simp] theorem State.setPc_ime (s : State) (w : Word) : (s.setPc w).ime = s.ime := rfl
@[simp] theorem State.setPc_eiPending (s : State) (w : Word) : (s.setPc w).eiPending = s.eiPending := rfl
@[simp] theorem State.setPc_halted (s : State) (w : Word) : (s.setPc w).halted = s.halted := rfl
@[simp] theorem State.setPc_doubleSpeed (s : State) (w : Word) : (s.setPc w).doubleSpeed = s.doubleSpeed := rfl
@[simp] theorem State.setPc_speedPrep (s : State) (w : Word) : (s.setPc w).speedPrep = s.speedPrep := rfl
@[simp] theorem State.setPc_cycles (s : State) (w : Word) : (s.setPc w).cycles = s.cycles := rfl
@[simp] theorem State.setPc_lastPump (s : State) (w : Word) : (s.setPc w).lastPump = s.lastPump := rfl
@[simp] theorem State.setPc_fault (s : State) (w : Word) : (s.setPc w).fault = s.fault := rfl
@[simp] theorem State.setPc_debugHalt (s : State) (w : Word) : (s.setPc w).debugHalt = s.debugHalt := rfl
@[simp] theorem State.setPc_stepResult (s : State) (w : Word) : (s.setPc w).stepResult = s.stepResult := rfl
@[simp] theorem State.setPc_breakpoints (s : State) (w : Word) : (s.setPc w).breakpoints = s.breakpoints := rfl
@[simp] theorem State.setPc_intBreakpoints (s : State) (w : Word) : (s.setPc w).intBreakpoints = s.intBreakpoints := rfl
@[simp] theorem State.setPc_watchpoints (s : State) (w : Word) : (s.setPc w).watchpoints = s.watchpoints := rfl
@[simp] theorem State.setPc_pedantic (s : State) (w : Word) : (s.setPc w).pedantic = s.pedantic := rfl
@[simp] theorem State.setPc_colorMode (s : State) (w : Word) : (s.setPc w).colorMode = s.colorMode := rfl
@[simp] theorem State.setPc_cfg (s : State) (w : Word) : (s.setPc w).cfg = s.cfg := rfl
@[simp] theorem State.setPc_ie (s : State) (w : Word) : (s.setPc w).ie = s.ie := rfl
@[simp] theorem State.setPc_ifr (s : State) (w : Word) : (s.setPc w).ifr = s.ifr := rfl
@[simp] theorem State.setPc_svbk (s : State) (w : Word) : (s.setPc w).svbk = s.svbk := rfl
@[simp] theorem State.setPc_dma (s : State) (w : Word) : (s.setPc w).dma = s.dma := rfl
@[simp] theorem State.setPc_hdma1 (s : State) (w : Word) : (s.setPc w).hdma1 = s.hdma1 := rfl
@[simp] theorem State.setPc_hdma2 (s : State) (w : Word) : (s.setPc w).hdma2 = s.hdma2 := rfl
@[simp] theorem State.setPc_hdma3 (s : State) (w : Word) : (s.setPc w).hdma3 = s.hdma3 := rfl
@[simp] theorem State.setPc_hdma4 (s : State) (w : Word) : (s.setPc w).hdma4 = s.hdma4 := rfl
@[simp] theorem State.setPc_hdma5 (s : State) (w : Word) : (s.setPc w).hdma5 = s.hdma5 := rfl
@[simp] theorem State.setPc_wram (s : State) (w : Word) : (s.setPc w).wram = s.wram := rfl
@[simp] theorem State.setPc_hram (s : State) (w : Word) : (s.setPc w).hram = s.hram := rfl
@[simp] theorem State.setPc_cart (s : State) (w : Word) : (s.setPc w).cart = s.cart := rfl
@[simp] theorem State.setPc_timer (s : State) (w : Word) : (s.setPc w).timer = s.timer := rfl
@[simp] theorem State.setPc_input (s : State) (w : Word) : (s.setPc w).input = s.input := rfl
@[simp] theorem State.setPc_video (s : State) (w : Word) : (s.setPc w).video = s.video := rfl
@[simp] theorem State.setPc_audio (s : State) (w : Word) : (s.setPc w).audio = s.audio := rfl
@[simp] theorem State.setPc_draw (s : State) (w : Word) : (s.setPc w).draw = s.draw := rfl

@[simp] theorem State.setSp_ime (s : State) (w : Word) : (s.setSp w).ime = s.ime := rfl
@[simp] theorem State.setSp_eiPending (s : State) (w : Word) : (s.setSp w).eiPending = s.eiPending := rfl
@[simp] theorem State.setSp_halted (s : State) (w : Word) : (s.setSp w).halted = s.halted := rfl
@[simp] theorem State.setSp_doubleSpeed (s : State) (w : Word) : (s.setSp w).doubleSpeed = s.doubleSpeed := rfl
@[simp] theorem State.setSp_speedPrep (s : State) (w : Word) : (s.setSp w).speedPrep = s.speedPrep := rfl
@[simp] theorem State.setSp_cycles (s : State) (w : Word) : (s.setSp w).cycles = s.cycles := rfl
@[simp] theorem State.setSp_lastPump (s : State) (w : Word) : (s.setSp w).lastPump = s.lastPump := rfl
@[simp] theorem State.setSp_fault (s : State) (w : Word) : (s.setSp w).fault = s.fault := rfl
@[simp] theorem State.setSp_debugHalt (s : State) (w : Word) : (s.setSp w).debugHalt = s.debugHalt := rfl
@[simp] theorem State.setSp_stepResult (s : State) (w : Word) : (s.setSp w).stepResult = s.stepResult := rfl
@[simp] theorem State.setSp_breakpoints (s : State) (w : Word) : (s.setSp w).breakpoints = s.breakpoints := rfl
@[simp] theorem State.setSp_intBreakpoints (s : State) (w : Word) : (s.setSp w).intBreakpoints = s.intBreakpoints := rfl
@[simp] theorem State.setSp_watchpoints (s : State) (w : Word) : (s.setSp w).watchpoints = s.watchpoints := rfl
@[simp] theorem State.setSp_pedantic (s : State) (w : Word) : (s.setSp w).pedantic = s.pedantic := rfl
@[simp] theorem State.setSp_colorMode (s : State) (w : Word) : (s.setSp w).colorMode = s.colorMode := rfl
@[simp] theorem State.setSp_cfg (s : State) (w : Word) : (s.setSp w).cfg = s.cfg := rfl
@[simp] theorem State.setSp_ie (s : State) (w : Word) : (s.setSp w).ie = s.ie := rfl
@[simp] theorem State.setSp_ifr (s : State) (w : Word) : (s.setSp w).ifr = s.ifr := rfl
@[simp] theorem State.setSp_svbk (s : State) (w : Word) : (s.setSp w).svbk = s.svbk := rfl
@[simp] theorem State.setSp_dma (s : State) (w : Word) : (s.setSp w).dma = s.dma := rfl
@[simp] theorem State.setSp_hdma1 (s : State) (w : Word) : (s.setSp w).hdma1 = s.hdma1 := rfl
@[simp] theorem State.setSp_hdma2 (s : State) (w : Word) : (s.setSp w).hdma2 = s.hdma2 := rfl
@[simp] theorem State.setSp_hdma3 (s : State) (w : Word) : (s.setSp w).hdma3 = s.hdma3 := rfl
@[simp] theorem State.setSp_hdma4 (s : State) (w : Word) : (s.setSp w).hdma4 = s.hdma4 := rfl
@[simp] theorem State.setSp_hdma5 (s : State) (w : Word) : (s.setSp w).hdma5 = s.hdma5 := rfl
@[simp] theorem State.setSp_wram (s : State) (w : Word) : (s.setSp w).wram = s.wram := rfl
@[simp] theorem State.setSp_hram (s : State) (w : Word) : (s.setSp w).hram = s.hram := rfl
@[simp] theorem State.setSp_cart (s : State) (w : Word) : (s.setSp w).cart = s.cart := rfl
@[simp] theorem State.setSp_timer (s : State) (w : Word) : (s.setSp w).timer = s.timer := rfl
@[simp] theorem State.setSp_input (s : State) (w : Word) : (s.setSp w).input = s.input := rfl
@[simp] theorem State.setSp_video (s : State) (w : Word) : (s.setSp w).video = s.video := rfl
@[simp] theorem State.setSp_audio (s : State) (w : Word) : (s.setSp w).audio = s.audio := rfl
@[simp] theorem State.setSp_draw (s : State) (w : Word) : (s.setSp w).draw = s.draw := rfl

@[simp] theorem State.setBc_ime (s : State) (w : Word) : (s.setBc w).ime = s.ime := rfl
@[simp] theorem State.setBc_eiPending (s : State) (w : Word) : (s.setBc w).eiPending = s.eiPending := rfl
@[simp] theorem State.setBc_halted (s : State) (w : Word) : (s.setBc w).halted = s.halted := rfl
@[simp] theorem State.setBc_doubleSpeed (s : State) (w : Word) : (s.setBc w).doubleSpeed = s.doubleSpeed := rfl
@[simp] theorem State.setBc_speedPrep (s : State) (w : Word) : (s.setBc w).speedPrep = s.speedPrep := rfl
@[simp] theorem State.setBc_cycles (s : State) (w : Word) : (s.setBc w).cycles = s.cycles := rfl
@[simp] theorem State.setBc_lastPump (s : State) (w : Word) : (s.setBc w).lastPump = s.lastPump := rfl
@[simp] theorem State.setBc_fault (s : State) (w : Word) : (s.setBc w).fault = s.fault := rfl
@[simp] theorem State.setBc_debugHalt (s : State) (w : Word) : (s.setBc w).debugHalt = s.debugHalt := rfl
@[simp] theorem State.setBc_stepResult (s : State) (w : Word) : (s.setBc w).stepResult = s.stepResult := rfl
@[simp] theorem State.setBc_breakpoints (s : State) (w : Word) : (s.setBc w).breakpoints = s.breakpoints := rfl
@[simp] theorem State.setBc_intBreakpoints (s : State) (w : Word) : (s.setBc w).intBreakpoints = s.intBreakpoints := rfl
@[simp] theorem State.setBc_watchpoints (s : State) (w : Word) : (s.setBc w).watchpoints = s.watchpoints := rfl
@[simp] theorem State.setBc_pedantic (s : State) (w : Word) : (s.setBc w).pedantic = s.pedantic := rfl
@[simp] theorem State.setBc_colorMode (s : State) (w : Word) : (s.setBc w).colorMode = s.colorMode := rfl
@[simp] theorem State.setBc_cfg (s : State) (w : Word) : (s.setBc w).cfg = s.cfg := rfl
@[simp] theorem State.setBc_ie (s : State) (w : Word) : (s.setBc w).ie = s.ie := rfl
@[simp] theorem State.setBc_ifr (s : State) (w : Word) : (s.setBc w).ifr = s.ifr := rfl
@[simp] theorem State.setBc_svbk (s : State) (w : Word) : (s.setBc w).svbk = s.svbk := rfl
@[simp] theorem State.setBc_dma (s : State) (w : Word) : (s.setBc w).dma = s.dma := rfl
@[simp] theorem State.setBc_hdma1 (s : State) (w : Word) : (s.setBc w).hdma1 = s.hdma1 := rfl
@[simp] theorem State.setBc_hdma2 (s : State) (w : Word) : (s.setBc w).hdma2 = s.hdma2 := rfl
@[simp] theorem State.setBc_hdma3 (s : State) (w : Word) : (s.setBc w).hdma3 = s.hdma3 := rfl
@[simp] theorem State.setBc_hdma4 (s : State) (w : Word) : (s.setBc w).hdma4 = s.hdma4 := rfl
@[simp] theorem State.setBc_hdma5 (s : State) (w : Word) : (s.setBc w).hdma5 = s.hdma5 := rfl
@[simp] theorem State.setBc_wram (s : State) (w : Word) : (s.setBc w).wram = s.wram := rfl
@[simp] theorem State.setBc_hram (s : State) (w : Word) : (s.setBc w).hram = s.hram := rfl
@[simp] theorem State.setBc_cart (s : State) (w : Word) : (s.setBc w).cart = s.cart := rfl
@[simp] theorem State.setBc_timer (s : State) (w : Word) : (s.setBc w).timer = s.timer := rfl
@[simp] theorem State.setBc_input (s : State) (w : Word) : (s.setBc w).input = s.input := rfl
@[simp] theorem State.setBc_video (s : State) (w : Word) : (s.setBc w).video = s.video := rfl
@[simp] theorem State.setBc_audio (s : State) (w : Word) : (s.setBc w).audio = s.audio := rfl
@[simp] theorem State.setBc_draw (s : State) (w : Word) : (s.setBc w).draw = s.draw := rfl

@[simp] theorem State.setDe_ime (s : State) (w : Word) : (s.setDe w).ime = s.ime := rfl
@[simp] theorem State.setDe_eiPending (s : State) (w : Word) : (s.setDe w).eiPending = s.eiPending := rfl
@[simp] theorem State.setDe_halted (s : State) (w : Word) : (s.setDe w).halted = s.halted := rfl
@[simp] theorem State.setDe_doubleSpeed (s : State) (w : Word) : (s.setDe w).doubleSpeed = s.doubleSpeed := rfl
@[simp] theorem State.setDe_speedPrep (s : State) (w : Word) : (s.setDe w).speedPrep = s.speedPrep := rfl
@[simp] theorem State.setDe_cycles (s : State) (w : Word) : (s.setDe w).cycles = s.cycles := rfl
@[simp] theorem State.setDe_lastPump (s : State) (w : Word) : (s.setDe w).lastPump = s.lastPump := rfl
@[simp] theorem State.setDe_fault (s : State) (w : Word) : (s.setDe w).fault = s.fault := rfl
@[simp] theorem State.setDe_debugHalt (s : State) (w : Word) : (s.setDe w).debugHalt = s.debugHalt := rfl
@[simp] theorem State.setDe_stepResult (s : State) (w : Word) : (s.setDe w).stepResult = s.stepResult := rfl
@[simp] theorem State.setDe_breakpoints (s : State) (w : Word) : (s.setDe w).breakpoints = s.breakpoints := rfl
@[simp] theorem State.setDe_intBreakpoints (s : State) (w : Word) : (s.setDe w).intBreakpoints = s.intBreakpoints := rfl
@[simp] theorem State.setDe_watchpoints (s : State) (w : Word) : (s.setDe w).watchpoints = s.watchpoints := rfl
@[simp] theorem State.setDe_pedantic (s : State) (w : Word) : (s.setDe w).pedantic = s.pedantic := rfl
@[simp] theorem State.setDe_colorMode (s : State) (w : Word) : (s.setDe w).colorMode = s.colorMode := rfl
@[simp] theorem State.setDe_cfg (s : State) (w : Word) : (s.setDe w).cfg = s.cfg := rfl
@[simp] theorem State.setDe_ie (s : State) (w : Word) : (s.setDe w).ie = s.ie := rfl
@[simp] theorem State.setDe_ifr (s : State) (w : Word) : (s.setDe w).ifr = s.ifr := rfl
@[simp] theorem State.setDe_svbk (s : State) (w : Word) : (s.setDe w).svbk = s.svbk := rfl
@[simp] theorem State.setDe_dma (s : State) (w : Word) : (s.setDe w).dma = s.dma := rfl
@[simp] theorem State.setDe_hdma1 (s : State) (w : Word) : (s.setDe w).hdma1 = s.hdma1 := rfl
@[simp] theorem State.setDe_hdma2 (s : State) (w : Word) : (s.setDe w).hdma2 = s.hdma2 := rfl
@[simp] theorem State.setDe_hdma3 (s : State) (w : Word) : (s.setDe w).hdma3 = s.hdma3 := rfl
@[simp] theorem State.setDe_hdma4 (s : State) (w : Word) : (s.setDe w).hdma4 = s.hdma4 := rfl
@[simp] theorem State.setDe_hdma5 (s : State) (w : Word) : (s.setDe w).hdma5 = s.hdma5 := rfl
@[simp] theorem State.setDe_wram (s : State) (w : Word) : (s.setDe w).wram = s.wram := rfl
@[simp] theorem State.setDe_hram (s : State) (w : Word) : (s.setDe w).hram = s.hram := rfl
@[simp] theorem State.setDe_cart (s : State) (w : Word) : (s.setDe w).cart = s.cart := rfl
@[simp] theorem State.setDe_timer (s : State) (w : Word) : (s.setDe w).timer = s.timer := rfl
@[simp] theorem State.setDe_input (s : State) (w : Word) : (s.setDe w).input = s.input := rfl
@[simp] theorem State.setDe_video (s : State) (w : Word) : (s.setDe w).video = s.video := rfl
@[simp] theorem State.setDe_audio (s : State) (w : Word) : (s.setDe w).audio = s.audio := rfl
@[simp] theorem State.setDe_draw (s : State) (w : Word) : (s.setDe w).draw = s.draw := rfl

@[simp] theorem State.setHl_ime (s : State) (w : Word) : (s.setHl w).ime = s.ime := rfl
@[simp] theorem State.setHl_eiPending (s : State) (w : Word) : (s.setHl w).eiPending = s.eiPending := rfl
@[simp] theorem State.setHl_halted (s : State) (w : Word) : (s.setHl w).halted = s.halted := rfl
@[simp] theorem State.setHl_doubleSpeed (s : State) (w : Word) : (s.setHl w).doubleSpeed = s.doubleSpeed := rfl
@[simp] theorem State.setHl_speedPrep (s : State) (w : Word) : (s.setHl w).speedPrep = s.speedPrep := rfl
@[simp] theorem State.setHl_cycles (s : State) (w : Word) : (s.setHl w).cycles = s.cycles := rfl
@[simp] theorem State.setHl_lastPump (s : State) (w : Word) : (s.setHl w).lastPump = s.lastPump := rfl
@[simp] theorem State.setHl_fault (s : State) (w : Word) : (s.setHl w).fault = s.fault := rfl
@[simp] theorem State.setHl_debugHalt (s : State) (w : Word) : (s.setHl w).debugHalt = s.debugHalt := rfl
@[simp] theorem State.setHl_stepResult (s : State) (w : Word) : (s.setHl w).stepResult = s.stepResult := rfl
@[simp] theorem State.setHl_breakpoints (s : State) (w : Word) : (s.setHl w).breakpoints = s.breakpoints := rfl
@[simp] theorem State.setHl_intBreakpoints (s : State) (w : Word) : (s.setHl w).intBreakpoints = s.intBreakpoints := rfl
@[simp] theorem State.setHl_watchpoints (s : State) (w : Word) : (s.setHl w).watchpoints = s.watchpoints := rfl
@[simp] theorem State.setHl_pedantic (s : State) (w : Word) : (s.setHl w).pedantic = s.pedantic := rfl
@[simp] theorem State.setHl_colorMode (s : State) (w : Word) : (s.setHl w).colorMode = s.colorMode := rfl
@[simp] theorem State.setHl_cfg (s : State) (w : Word) : (s.setHl w).cfg = s.cfg := rfl
@[simp] theorem State.setHl_ie (s : State) (w : Word) : (s.setHl w).ie = s.ie := rfl
@[simp] theorem State.setHl_ifr (s : State) (w : Word) : (s.setHl w).ifr = s.ifr := rfl
@[simp] theorem State.setHl_svbk (s : State) (w : Word) : (s.setHl w).svbk = s.svbk := rfl
@[simp] theorem State.setHl_dma (s : State) (w : Word) : (s.setHl w).dma = s.dma := rfl
@[simp] theorem State.setHl_hdma1 (s : State) (w : Word) : (s.setHl w).hdma1 = s.hdma1 := rfl
@[simp] theorem State.setHl_hdma2 (s : State) (w : Word) : (s.setHl w).hdma2 = s.hdma2 := rfl
@[simp] theorem State.setHl_hdma3 (s : State) (w : Word) : (s.setHl w).hdma3 = s.hdma3 := rfl
@[simp] theorem State.setHl_hdma4 (s : State) (w : Word) : (s.setHl w).hdma4 = s.hdma4 := rfl
@[simp] theorem State.setHl_hdma5 (s : State) (w : Word) : (s.setHl w).hdma5 = s.hdma5 := rfl
@[simp] theorem State.setHl_wram (s : State) (w : Word) : (s.setHl w).wram = s.wram := rfl
@[simp] theorem State.setHl_hram (s : State) (w : Word) : (s.setHl w).hram = s.hram := rfl
@[simp] theorem State.setHl_cart (s : State) (w : Word) : (s.setHl w).cart = s.cart := rfl
@[simp] theorem State.setHl_timer (s : State) (w : Word) : (s.setHl w).timer = s.timer := rfl
@[simp] theorem State.setHl_input (s : State) (w : Word) : (s.setHl w).input = s.input := rfl
@[simp] theorem State.setHl_video (s : State) (w : Word) : (s.setHl w).video = s.video := rfl
@[simp] theorem State.setHl_audio (s : State) (w : Word) : (s.setHl w).audio = s.audio := rfl
@[simp] theorem State.setHl_draw (s : State) (w : Word) : (s.setHl w).draw = s.draw := rfl

@[simp] theorem State.setAf_ime (s : State) (w : Word) : (s.setAf w).ime = s.ime := rfl
@[simp] theorem State.setAf_eiPending (s : State) (w : Word) : (s.setAf w).eiPending = s.eiPending := rfl
@[simp] theorem State.setAf_halted (s : State) (w : Word) : (s.setAf w).halted = s.halted := rfl
@[simp] theorem State.setAf_doubleSpeed (s : State) (w : Word) : (s.setAf w).doubleSpeed = s.doubleSpeed := rfl
@[simp] theorem State.setAf_speedPrep (s : State) (w : Word) : (s.setAf w).speedPrep = s.speedPrep := rfl
@[simp] theorem State.setAf_cycles (s : State) (w : Word) : (s.setAf w).cycles = s.cycles := rfl
@[simp] theorem State.setAf_lastPump (s : State) (w : Word) : (s.setAf w).lastPump = s.lastPump := rfl
@[simp] theorem State.setAf_fault (s : State) (w : Word) : (s.setAf w).fault = s.fault := rfl
@[simp] theorem State.setAf_debugHalt (s : State) (w : Word) : (s.setAf w).debugHalt = s.debugHalt := rfl
@[simp] theorem State.setAf_stepResult (s : State) (w : Word) : (s.setAf w).stepResult = s.stepResult := rfl
@[simp] theorem State.setAf_breakpoints (s : State) (w : Word) : (s.setAf w).breakpoints = s.breakpoints := rfl
@[simp] theorem State.setAf_intBreakpoints (s : State) (w : Word) : (s.setAf w).intBreakpoints = s.intBreakpoints := rfl
@[simp] theorem State.setAf_watchpoints (s : State) (w : Word) : (s.setAf w).watchpoints = s.watchpoints := rfl
@[simp] theorem State.setAf_pedantic (s : State) (w : Word) : (s.setAf w).pedantic = s.pedantic := rfl
@[simp] theorem State.setAf_colorMode (s : State) (w : Word) : (s.setAf w).colorMode = s.colorMode := rfl
@[simp] theorem State.setAf_cfg (s : State) (w : Word) : (s.setAf w).cfg = s.cfg := rfl
@[simp] theorem State.setAf_ie (s : State) (w : Word) : (s.setAf w).ie = s.ie := rfl
@[simp] theorem State.setAf_ifr (s : State) (w : Word) : (s.setAf w).ifr = s.ifr := rfl
@[simp] theorem State.setAf_svbk (s : State) (w : Word) : (s.setAf w).svbk = s.svbk := rfl
@[simp] theorem State.setAf_dma (s : State) (w : Word) : (s.setAf w).dma = s.dma := rfl
@[simp] theorem State.setAf_hdma1 (s : State) (w : Word) : (s.setAf w).hdma1 = s.hdma1 := rfl
@[simp] theorem State.setAf_hdma2 (s : State) (w : Word) : (s.setAf w).hdma2 = s.hdma2 := rfl
@[simp] theorem State.setAf_hdma3 (s : State) (w : Word) : (s.setAf w).hdma3 = s.hdma3 := rfl
@[simp] theorem State.setAf_hdma4 (s : State) (w : Word) : (s.setAf w).hdma4 = s.hdma4 := rfl
@[simp] theorem State.setAf_hdma5 (s : State) (w : Word) : (s.setAf w).hdma5 = s.hdma5 := rfl
@[simp] theorem State.setAf_wram (s : State) (w : Word) : (s.setAf w).wram = s.wram := rfl
@[simp] theorem State.setAf_hram (s : State) (w : Word) : (s.setAf w).hram = s.hram := rfl
@[simp] theorem State.setAf_cart (s : State) (w : Word) : (s.setAf w).cart = s.cart := rfl
@[simp] theorem State.setAf_timer (s : State) (w : Word) : (s.setAf w).timer = s.timer := rfl
@[simp] theorem State.setAf_input (s : State) (w : Word) : (s.setAf w).input = s.input := rfl
@[simp] theorem State.setAf_video (s : State) (w : Word) : (s.setAf w).video = s.video := rfl
@[simp] theorem State.setAf_audio (s : State) (w : Word) : (s.setAf w).audio = s.audio := rfl
@[simp] theorem State.setAf_draw (s : State) (w : Word) : (s.setAf w).draw = s.draw := rfl

@[simp] theorem State.setPair_ime (s : State) (p : Pair) (w : Word) : (s.setPair p w).ime = s.ime := by cases p <;> rfl
@[simp] theorem State.setPair_eiPending (s : State) (p : Pair) (w : Word) : (s.setPair p w).eiPending = s.eiPending := by cases p <;> rfl
@[simp] theorem State.setPair_halted (s : State) (p : Pair) (w : Word) : (s.setPair p w).halted = s.halted := by cases p <;> rfl
@[simp] theorem State.setPair_doubleSpeed (s : State) (p : Pair) (w : Word) : (s.setPair p w).doubleSpeed = s.doubleSpeed := by cases p <;> rfl
@[simp] theorem State.setPair_speedPrep (s : State) (p : Pair) (w : Word) : (s.setPair p w).speedPrep = s.speedPrep := by cases p <;> rfl
@[simp] theorem State.setPair_cycles (s : State) (p : Pair) (w : Word) : (s.setPair p w).cycles = s.cycles := by cases p <;> rfl
@[simp] theorem State.setPair_lastPump (s : State) (p : Pair) (w : Word) : (s.setPair p w).lastPump = s.lastPump := by cases p <;> rfl
@[simp] theorem State.setPair_fault (s : State) (p : Pair) (w : Word) : (s.setPair p w).fault = s.fault := by cases p <;> rfl
@[simp] theorem State.setPair_debugHalt (s : State) (p : Pair) (w : Word) : (s.setPair p w).debugHalt = s.debugHalt := by cases p <;> rfl
@[simp] theorem State.setPair_stepResult (s : State) (p : Pair) (w : Word) : (s.setPair p w).stepResult = s.stepResult := by cases p <;> rfl
@[simp] theorem State.setPair_breakpoints (s : State) (p : Pair) (w : Word) : (s.setPair p w).breakpoints = s.breakpoints := by cases p <;> rfl
@[simp] theorem State.setPair_intBreakpoints (s : State) (p : Pair) (w : Word) : (s.setPair p w).intBreakpoints = s.intBreakpoints := by cases p <;> rfl
@[simp] theorem State.setPair_watchpoints (s : State) (p : Pair) (w : Word) : (s.setPair p w).watchpoints = s.watchpoints := by cases p <;> rfl
@[simp] theorem State.setPair_pedantic (s : State) (p : Pair) (w : Word) : (s.setPair p w).pedantic = s.pedantic := by cases p <;> rfl
@[simp] theorem State.setPair_colorMode (s : State) (p : Pair) (w : Word) : (s.setPair p w).colorMode = s.colorMode := by cases p <;> rfl
@[simp] theorem State.setPair_cfg (s : State) (p : Pair) (w : Word) : (s.setPair p w).cfg = s.cfg := by cases p <;> rfl
@[simp] theorem State.setPair_ie (s : State) (p : Pair) (w : Word) : (s.setPair p w).ie = s.ie := by cases p <;> rfl
@[simp] theorem State.setPair_ifr (s : State) (p : Pair) (w : Word) : (s.setPair p w).ifr = s.ifr := by cases p <;> rfl
@[simp] theorem State.setPair_svbk (s : State) (p : Pair) (w : Word) : (s.setPair p w).svbk = s.svbk := by cases p <;> rfl
@[simp] theorem State.setPair_dma (s : State) (p : Pair) (w : Word) : (s.setPair p w).dma = s.dma := by cases p <;> rfl
@[simp] theorem State.setPair_hdma1 (s : State) (p : Pair) (w : Word) : (s.setPair p w).hdma1 = s.hdma1 := by cases p <;> rfl
@[simp] theorem State.setPair_hdma2 (s : State) (p : Pair) (w : Word) : (s.setPair p w).hdma2 = s.hdma2 := by cases p <;> rfl
@[simp] theorem State.setPair_hdma3 (s : State) (p : Pair) (w : Word) : (s.setPair p w).hdma3 = s.hdma3 := by cases p <;> rfl
@[simp] theorem State.setPair_hdma4 (s : State) (p : Pair) (w : Word) : (s.setPair p w).hdma4 = s.hdma4 := by cases p <;> rfl
@[simp] theorem State.setPair_hdma5 (s : State) (p : Pair) (w : Word) : (s.setPair p w).hdma5 = s.hdma5 := by cases p <;> rfl
@[simp] theorem State.setPair_wram (s : State) (p : Pair) (w : Word) : (s.setPair p w).wram = s.wram := by cases p <;> rfl
@[simp] theorem State.setPair_hram (s : State) (p : Pair) (w : Word) : (s.setPair p w).hram = s.hram := by cases p <;> rfl
@[simp] theorem State.setPair_cart (s : State) (p : Pair) (w : Word) : (s.setPair p w).cart = s.cart := by cases p <;> rfl
@[simp] theorem State.setPair_timer (s : State) (p : Pair) (w : Word) : (s.setPair p w).timer = s.timer := by cases p <;> rfl
@[simp] theorem State.setPair_input (s : State) (p : Pair) (w : Word) : (s.setPair p w).input = s.input := by cases p <;> rfl
@[simp] theorem State.setPair_video (s : State) (p : Pair) (w : Word) : (s.setPair p w).video = s.video := by cases p <;> rfl
@[simp] theorem State.setPair_audio (s : State) (p : Pair) (w : Word) : (s.setPair p w).audio = s.audio := by cases p <;> rfl
@[simp] theorem State.setPair_draw (s : State) (p : Pair) (w : Word) : (s.setPair p w).draw = s.draw := by cases p <;> rfl

@[simp] theorem State.setStackPair_ime (s : State) (p : StackPair) (w : Word) : (s.setStackPair p w).ime = s.ime := by cases p <;> rfl
@[simp] theorem State.setStackPair_eiPending (s : State) (p : StackPair) (w : Word) : (s.setStackPair p w).eiPending = s.eiPending := by cases p <;> rfl
@[simp] theorem State.setStackPair_halted (s : State) (p : StackPair) (w : Word) : (s.setStackPair p w).halted = s.halted := by cases p <;> rfl
@[simp] theorem State.setStackPair_doubleSpeed (s : State) (p : StackPair) (w : Word) : (s.setStackPair p w).doubleSpeed = s.doubleSpeed := by cases p <;> rfl
@[simp] theorem State.setStackPair_speedPrep (s : State) (p : StackPair) (w : Word) : (s.setStackPair p w).speedPrep = s.speedPrep := by cases p <;> rfl
@[simp] theorem State.setStackPair_cycles (s : State) (p : StackPair) (w : Word) : (s.setStackPair p w).cycles = s.cycles := by cases p <;> rfl
@[simp] theorem State.setStackPair_lastPump (s : State) (p : StackPair) (w : Word) : (s.setStackPair p w).lastPump = s.lastPump := by cases p <;> rfl
@[simp] theorem State.setStackPair_fault (s : State) (p : StackPair) (w : Word) : (s.setStackPair p w).fault = s.fault := by cases p <;> rfl
@[simp] theorem State.setStackPair_debugHalt (s : State) (p : StackPair) (w : Word) : (s.setStackPair p w).debugHalt = s.debugHalt := by cases p <;> rfl
@[simp] theorem State.setStackPair_stepResult (s : State) (p : StackPair) (w : Word) : (s.setStackPair p w).stepResult = s.stepResult := by cases p <;> rfl
@[simp] theorem State.setStackPair_breakpoints (s : State) (p : StackPair) (w : Word) : (s.setStackPair p w).breakpoints = s.breakpoints := by cases p <;> rfl
@[simp] theorem State.setStackPair_intBreakpoints (s : State) (p : StackPair) (w : Word) : (s.setStackPair p w).intBreakpoints = s.intBreakpoints := by cases p <;> rfl
@[simp] theorem State.setStackPair_watchpoints (s : State) (p : StackPair) (w : Word) : (s.setStackPair p w).watchpoints = s.watchpoints := by cases p <;> rfl
@[simp] theorem State.setStackPair_pedantic (s : State) (p : StackPair) (w : Word) : (s.setStackPair p w).pedantic = s.pedantic := by cases p <;> rfl
@[simp] theorem State.setStackPair_colorMode (s : State) (p : StackPair) (w : Word) : (s.setStackPair p w).colorMode = s.colorMode := by cases p <;> rfl
@[simp] theorem State.setStackPair_cfg (s : State) (p : StackPair) (w : Word) : (s.setStackPair p w).cfg = s.cfg := by cases p <;> rfl
@[simp] theorem State.setStackPair_ie (s : State) (p : StackPair) (w : Word) : (s.setStackPair p w).ie = s.ie := by cases p <;> rfl
@[simp] theorem State.setStackPair_ifr (s : State) (p : StackPair) (w : Word) : (s.setStackPair p w).ifr = s.ifr := by cases p <;> rfl
@[simp] theorem State.setStackPair_svbk (s : State) (p : StackPair) (w : Word) : (s.setStackPair p w).svbk = s.svbk := by cases p <;> rfl
@[simp] theorem State.setStackPair_dma (s : State) (p : StackPair) (w : Word) : (s.setStackPair p w).dma = s.dma := by cases p <;> rfl
@[simp] theorem State.setStackPair_hdma1 (s : State) (p : StackPair) (w : Word) : (s.setStackPair p w).hdma1 = s.hdma1 := by cases p <;> rfl
@[simp] theorem State.setStackPair_hdma2 (s : State) (p : StackPair) (w : Word) : (s.setStackPair p w).hdma2 = s.hdma2 := by cases p <;> rfl
@[simp] theorem State.setStackPair_hdma3 (s : State) (p : StackPair) (w : Word) : (s.setStackPair p w).hdma3 = s.hdma3 := by cases p <;> rfl
@[simp] theorem State.setStackPair_hdma4 (s : State) (p : StackPair) (w : Word) : (s.setStackPair p w).hdma4 = s.hdma4 := by cases p <;> rfl
@[simp] theorem State.setStackPair_hdma5 (s : State) (p : StackPair) (w : Word) : (s.setStackPair p w).hdma5 = s.hdma5 := by cases p <;> rfl
@[simp] theorem State.setStackPair_wram (s : State) (p : StackPair) (w : Word) : (s.setStackPair p w).wram = s.wram := by cases p <;> rfl
@[simp] theorem State.setStackPair_hram (s : State) (p : StackPair) (w : Word) : (s.setStackPair p w).hram = s.hram := by cases p <;> rfl
@[simp] theorem State.setStackPair_cart (s : State) (p : StackPair) (w : Word) : (s.setStackPair p w).cart = s.cart := by cases p <;> rfl
@[simp] theorem State.setStackPair_timer (s : State) (p : StackPair) (w : Word) : (s.setStackPair p w).timer = s.timer := by cases p <;> rfl
@[simp] theorem State.setStackPair_input (s : State) (p : StackPair) (w : Word) : (s.setStackPair p w).input = s.input := by cases p <;> rfl
@[simp] theorem State.setStackPair_video (s : State) (p : StackPair) (w : Word) : (s.setStackPair p w).video = s.video := by cases p <;> rfl
@[simp] theorem State.setStackPair_audio (s : State) (p : StackPair) (w : Word) : (s.setStackPair p w).audio = s.audio := by cases p <;> rfl
@[simp] theorem State.setStackPair_draw (s : State) (p : StackPair) (w : Word) : (s.setStackPair p w).draw = s.draw := by cases p <;> rfl

@[simp] theorem State.request_regs (s : State) (k : IntKind) : (s.request k).regs = s.regs := rfl
@[simp] theorem State.request_ime (s : State) (k : IntKind) : (s.request k).ime = s.ime := rfl
@[simp] theorem State.request_eiPending (s : State) (k : IntKind) : (s.request k).eiPending = s.eiPending := rfl
@[simp] theorem State.request_halted (s : State) (k : IntKind) : (s.request k).halted = s.halted := rfl
@[simp] theorem State.request_doubleSpeed (s : State) (k : IntKind) : (s.request k).doubleSpeed = s.doubleSpeed := rfl
@[simp] theorem State.request_speedPrep (s : State) (k : IntKind) : (s.request k).speedPrep = s.speedPrep := rfl
@[simp] theorem State.request_cycles (s : State) (k : IntKind) : (s.request k).cycles = s.cycles := rfl
@[simp] theorem State.request_lastPump (s : State) (k : IntKind) : (s.request k).lastPump = s.lastPump := rfl
@[simp] theorem State.request_fault (s : State) (k : IntKind) : (s.request k).fault = s.fault := rfl
@[simp] theorem State.request_debugHalt (s : State) (k : IntKind) : (s.request k).debugHalt = s.debugHalt := rfl
@[simp] theorem State.request_stepResult (s : State) (k : IntKind) : (s.request k).stepResult = s.stepResult := rfl
@[simp] theorem State.request_breakpoints (s : State) (k : IntKind) : (s.request k).breakpoints = s.breakpoints := rfl
@[simp] theorem State.request_intBreakpoints (s : State) (k : IntKind) : (s.request k).intBreakpoints = s.intBreakpoints := rfl
@[simp] theorem State.request_watchpoints (s : State) (k : IntKind) : (s.request k).watchpoints = s.watchpoints := rfl
@[simp] theorem State.request_pedantic (s : State) (k : IntKind) : (s.request k).pedantic = s.pedantic := rfl
@[simp] theorem State.request_colorMode (s : State) (k : IntKind) : (s.request k).colorMode = s.colorMode := rfl
@[simp] theorem State.request_cfg (s : State) (k : IntKind) : (s.request k).cfg = s.cfg := rfl
@[simp] theorem State.request_ie (s : State) (k : IntKind) : (s.request k).ie = s.ie := rfl
@[simp] theorem State.request_svbk (s : State) (k : IntKind) : (s.request k).svbk = s.svbk := rfl
@[simp] theorem State.request_dma (s : State) (k : IntKind) : (s.request k).dma = s.dma := rfl
@[simp] theorem State.request_hdma1 (s : State) (k : IntKind) : (s.request k).hdma1 = s.hdma1 := rfl
@[simp] theorem State.request_hdma2 (s : State) (k : IntKind) : (s.request k).hdma2 = s.hdma2 := rfl
@[simp] theorem State.request_hdma3 (s : State) (k : IntKind) : (s.request k).hdma3 = s.hdma3 := rfl
@[simp] theorem State.request_hdma4 (s : State) (k : IntKind) : (s.request k).hdma4 = s.hdma4 := rfl
@[simp] theorem State.request_hdma5 (s : State) (k : IntKind) : (s.request k).hdma5 = s.hdma5 := rfl
@[simp] theorem State.request_wram (s : State) (k : IntKind) : (s.request k).wram = s.wram := rfl
@[simp] theorem State.request_hram (s : State) (k : IntKind) : (s.request k).hram = s.hram := rfl
@[simp] theorem State.request_cart (s : State) (k : IntKind) : (s.request k).cart = s.cart := rfl
@[simp] theorem State.request_timer (s : State) (k : IntKind) : (s.request k).timer = s.timer := rfl
@[simp] theorem State.request_input (s : State) (k : IntKind) : (s.request k).input = s.input := rfl
@[simp] theorem State.request_video (s : State) (k : IntKind) : (s.request k).video = s.video := rfl
@[simp] theorem State.request_audio (s : State) (k : IntKind) : (s.request k).audio = s.audio := rfl
@[simp] theorem State.request_draw (s : State) (k : IntKind) : (s.request k).draw = s.draw := rfl

@[simp] theorem State.raise_regs (s : State) (e : StepError) : (s.raise e).regs = s.regs := rfl
@[simp] theorem State.raise_ime (s : State) (e : StepError) : (s.raise e).ime = s.ime := rfl
@[simp] theorem State.raise_eiPending (s : State) (e : StepError) : (s.raise e).eiPending = s.eiPending := rfl
@[simp] theorem State.raise_halted (s : State) (e : StepError) : (s.raise e).halted = s.halted := rfl
@[simp] theorem State.raise_doubleSpeed (s : State) (e : StepError) : (s.raise e).doubleSpeed = s.doubleSpeed := rfl
@[simp] theorem State.raise_speedPrep (s : State) (e : StepError) : (s.raise e).speedPrep = s.speedPrep := rfl
@[simp] theorem State.raise_cycles (s : State) (e : StepError) : (s.raise e).cycles = s.cycles := rfl
@[simp] theorem State.raise_lastPump (s : State) (e : StepError) : (s.raise e).lastPump = s.lastPump := rfl
@[simp] theorem State.raise_breakpoints (s : State) (e : StepError) : (s.raise e).breakpoints = s.breakpoints := rfl
@[simp] theorem State.raise_intBreakpoints (s : State) (e : StepError) : (s.raise e).intBreakpoints = s.intBreakpoints := rfl
@[simp] theorem State.raise_watchpoints (s : State) (e : StepError) : (s.raise e).watchpoints = s.watchpoints := rfl
@[simp] theorem State.raise_pedantic (s : State) (e : StepError) : (s.raise e).pedantic = s.pedantic := rfl
@[simp] theorem State.raise_colorMode (s : State) (e : StepError) : (s.raise e).colorMode = s.colorMode := rfl
@[simp] theorem State.raise_cfg (s : State) (e : StepError) : (s.raise e).cfg = s.cfg := rfl
@[simp] theorem State.raise_ie (s : State) (e : StepError) : (s.raise e).ie = s.ie := rfl
@[simp] theorem State.raise_ifr (s : State) (e : StepError) : (s.raise e).ifr = s.ifr := rfl
@[simp] theorem State.raise_svbk (s : State) (e : StepError) : (s.raise e).svbk = s.svbk := rfl
@[simp] theorem State.raise_dma (s : State) (e : StepError) : (s.raise e).dma = s.dma := rfl
@[simp] theorem State.raise_hdma1 (s : State) (e : StepError) : (s.raise e).hdma1 = s.hdma1 := rfl
@[simp] theorem State.raise_hdma2 (s : State) (e : StepError) : (s.raise e).hdma2 = s.hdma2 := rfl
@[simp] theorem State.raise_hdma3 (s : State) (e : StepError) : (s.raise e).hdma3 = s.hdma3 := rfl
@[simp] theorem State.raise_hdma4 (s : State) (e : StepError) : (s.raise e).hdma4 = s.hdma4 := rfl
@[simp] theorem State.raise_hdma5 (s : State) (e : StepError) : (s.raise e).hdma5 = s.hdma5 := rfl
@[simp] theorem State.raise_wram (s : State) (e : StepError) : (s.raise e).wram = s.wram := rfl
@[simp] theorem State.raise_hram (s : State) (e : StepError) : (s.raise e).hram = s.hram := rfl
@[simp] theorem State.raise_cart (s : State) (e : StepError) : (s.raise e).cart = s.cart := rfl
@[simp] theorem State.raise_timer (s : State) (e : StepError) : (s.raise e).timer = s.timer := rfl
@[simp] theorem State.raise_input (s : State) (e : StepError) : (s.raise e).input = s.input := rfl
@[simp] theorem State.raise_video (s : State) (e : StepError) : (s.raise e).video = s.video := rfl
@[simp] theorem State.raise_audio (s : State) (e : StepError) : (s.raise e).audio = s.audio := rfl
@[simp] theorem State.raise_draw (s : State) (e : StepError) : (s.raise e).draw = s.draw := rfl

@[simp] theorem State.setMem_regs (s : State) (i : MemId) (m : Memory) : (s.setMem i m).regs = s.regs := by cases i <;> rfl
@[simp] theorem State.setMem_ime (s : State) (i : MemId) (m : Memory) : (s.setMem i m).ime = s.ime := by cases i <;> rfl
@[simp] theorem State.setMem_eiPending (s : State) (i : MemId) (m : Memory) : (s.setMem i m).eiPending = s.eiPending := by cases i <;> rfl
@[simp] theorem State.setMem_halted (s : State) (i : MemId) (m : Memory) : (s.setMem i m).halted = s.halted := by cases i <;> rfl
@[simp] theorem State.setMem_doubleSpeed (s : State) (i : MemId) (m : Memory) : (s.setMem i m).doubleSpeed = s.doubleSpeed := by cases i <;> rfl
@[simp] theorem State.setMem_speedPrep (s : State) (i : MemId) (m : Memory) : (s.setMem i m).speedPrep = s.speedPrep := by cases i <;> rfl
@[simp] theorem State.setMem_cycles (s : State) (i : MemId) (m : Memory) : (s.setMem i m).cycles = s.cycles := by cases i <;> rfl
@[simp] theorem State.setMem_lastPump (s : State) (i : MemId) (m : Memory) : (s.setMem i m).lastPump = s.lastPump := by cases i <;> rfl
@[simp] theorem State.setMem_fault (s : State) (i : MemId) (m : Memory) : (s.setMem i m).fault = s.fault := by cases i <;> rfl
@[simp] theorem State.setMem_debugHalt (s : State) (i : MemId) (m : Memory) : (s.setMem i m).debugHalt = s.debugHalt := by cases i <;> rfl
@[simp] theorem State.setMem_stepResult (s : State) (i : MemId) (m : Memory) : (s.setMem i m).stepResult = s.stepResult := by cases i <;> rfl
@[simp] theorem State.setMem_breakpoints (s : State) (i : MemId) (m : Memory) : (s.setMem i m).breakpoints = s.breakpoints := by cases i <;> rfl
@[simp] theorem State.setMem_intBreakpoints (s : State) (i : MemId) (m : Memory) : (s.setMem i m).intBreakpoints = s.intBreakpoints := by cases i <;> rfl
@[simp] theorem State.setMem_watchpoints (s : State) (i : MemId) (m : Memory) : (s.setMem i m).watchpoints = s.watchpoints := by cases i <;> rfl
@[simp] theorem State.setMem_pedantic (s : State) (i : MemId) (m : Memory) : (s.setMem i m).pedantic = s.pedantic := by cases i <;> rfl
@[simp] theorem State.setMem_colorMode (s : State) (i : MemId) (m : Memory) : (s.setMem i m).colorMode = s.colorMode := by cases i <;> rfl
@[simp] theorem State.setMem_cfg (s : State) (i : MemId) (m : Memory) : (s.setMem i m).cfg = s.cfg := by cases i <;> rfl
@[simp] theorem State.setMem_ie (s : State) (i : MemId) (m : Memory) : (s.setMem i m).ie = s.ie := by cases i <;> rfl
@[simp] theorem State.setMem_ifr (s : State) (i : MemId) (m : Memory) : (s.setMem i m).ifr = s.ifr := by cases i <;> rfl
@[simp] theorem State.setMem_svbk (s : State) (i : MemId) (m : Memory) : (s.setMem i m).svbk = s.svbk := by cases i <;> rfl
@[simp] theorem State.setMem_dma (s : State) (i : MemId) (m : Memory) : (s.setMem i m).dma = s.dma := by cases i <;> rfl
@[simp] theorem State.setMem_hdma1 (s : State) (i : MemId) (m : Memory) : (s.setMem i m).hdma1 = s.hdma1 := by cases i <;> rfl
@[simp] theorem State.setMem_hdma2 (s : State) (i : MemId) (m : Memory) : (s.setMem i m).hdma2 = s.hdma2 := by cases i <;> rfl
@[simp] theorem State.setMem_hdma3 (s : State) (i : MemId) (m : Memory) : (s.setMem i m).hdma3 = s.hdma3 := by cases i <;> rfl
@[simp] theorem State.setMem_hdma4 (s : State) (i : MemId) (m : Memory) : (s.setMem i m).hdma4 = s.hdma4 := by cases i <;> rfl
@[simp] theorem State.setMem_hdma5 (s : State) (i : MemId) (m : Memory) : (s.setMem i m).hdma5 = s.hdma5 := by cases i <;> rfl
@[simp] theorem State.setMem_timer (s : State) (i : MemId) (m : Memory) : (s.setMem i m).timer = s.timer := by cases i <;> rfl
@[simp] theorem State.setMem_input (s : State) (i : MemId) (m : Memory) : (s.setMem i m).input = s.input := by cases i <;> rfl
@[simp] theorem State.setMem_audio (s : State) (i : MemId) (m : Memory) : (s.setMem i m).audio = s.audio := by cases i <;> rfl
@[simp] theorem State.setMem_draw (s : State) (i : MemId) (m : Memory) : (s.setMem i m).draw = s.draw := by cases i <;> rfl

@[simp] theorem State.raise_fault (s : State) (e : StepError) : (s.raise e).fault = some e := rfl
@[simp] theorem State.raise_debugHalt (s : State) (e : StepError) : (s.raise e).debugHalt = true := rfl
@[simp] theorem State.raise_stepResult (s : State) (e : StepError) : (s.raise e).stepResult = .error e := rfl
@[simp] theorem State.request_ifr (s : State) (k : IntKind) : (s.request k).ifr = s.ifr ||| k.mask := rfl

@[simp] theorem State.mem_setMem (s : State) (i : MemId) (m : Memory) : (s.setMem i m).mem i = m := by cases i <;> rfl

theorem State.mem_setMem_ne (s : State) {i j : MemId} (m : Memory) (h : j ≠ i) : (s.setMem i m).mem j = s.mem j := by
  cases i <;> cases j <;> first | rfl | exact absurd rfl h

/-- A byte written to a register is read back; the others keep theirs. -/
theorem State.reg_setReg (s : State) (r q : Reg8) (v : Byte) : (s.setReg r v).reg q = if q = r then v else s.reg q := by
  cases r <;> cases q <;> rfl

@[simp] theorem State.reg_setReg_same (s : State) (r : Reg8) (v : Byte) : (s.setReg r v).reg r = v := by cases r <;> rfl

theorem State.reg_setReg_ne (s : State) {r q : Reg8} (v : Byte) (h : q ≠ r) : (s.setReg r v).reg q = s.reg q := by
  cases r <;> cases q <;> first | rfl | exact absurd rfl h

@[simp] theorem State.reg_setFlagByte (s : State) (v : Byte) (q : Reg8) : (s.setFlagByte v).reg q = s.reg q := by cases q <;> rfl
@[simp] theorem State.reg_setFlags (s : State) (f : Flags) (q : Reg8) : (s.setFlags f).reg q = s.reg q := by cases q <;> rfl
@[simp] theorem State.reg_setPc (s : State) (w : Word) (q : Reg8) : (s.setPc w).reg q = s.reg q := by cases q <;> rfl
@[simp] theorem State.reg_setSp (s : State) (w : Word) (q : Reg8) : (s.setSp w).reg q = s.reg q := by cases q <;> rfl
@[simp] theorem State.reg_raise (s : State) (e : StepError) (q : Reg8) : (s.raise e).reg q = s.reg q := by cases q <;> rfl
@[simp] theorem State.reg_request (s : State) (k : IntKind) (q : Reg8) : (s.request k).reg q = s.reg q := by cases q <;> rfl
@[simp] theorem State.reg_setMem (s : State) (i : MemId) (m : Memory) (q : Reg8) : (s.setMem i m).reg q = s.reg q := by cases q <;> cases i <;> rfl

@[simp] theorem State.setReg_sp (s : State) (r : Reg8) (v : Byte) : (s.setReg r v).regs.sp = s.regs.sp := by cases r <;> rfl
@[simp] theorem State.setReg_pc (s : State) (r : Reg8) (v : Byte) : (s.setReg r v).regs.pc = s.regs.pc := by cases r <;> rfl
@[simp] theorem State.setFlagByte_sp (s : State) (v : Byte) : (s.setFlagByte v).regs.sp = s.regs.sp := by rfl
@[simp] theorem State.setFlagByte_pc (s : State) (v : Byte) : (s.setFlagByte v).regs.pc = s.regs.pc := by rfl
@[simp] theorem State.setFlags_sp (s : State) (f : Flags) : (s.setFlags f).regs.sp = s.regs.sp := by rfl
@[simp] theorem State.setFlags_pc (s : State) (f : Flags) : (s.setFlags f).regs.pc = s.regs.pc := by rfl
@[simp] theorem State.setPc_sp (s : State) (w : Word) : (s.setPc w).regs.sp = s.regs.sp := by rfl
@[simp] theorem State.setSp_pc (s : State) (w : Word) : (s.setSp w).regs.pc = s.regs.pc := by rfl
@[simp] theorem State.setBc_sp (s : State) (w : Word) : (s.setBc w).regs.sp = s.regs.sp := by rfl
@[simp] theorem State.setBc_pc (s : State) (w : Word) : (s.setBc w).regs.pc = s.regs.pc := by rfl
@[simp] theorem State.setDe_sp (s : State) (w : Word) : (s.setDe w).regs.sp = s.regs.sp := by rfl
@[simp] theorem State.setDe_pc (s : State) (w : Word) : (s.setDe w).regs.pc = s.regs.pc := by rfl
@[simp] theorem State.setHl_sp (s : State) (w : Word) : (s.setHl w).regs.sp = s.regs.sp := by rfl
@[simp] theorem State.setHl_pc (s : State) (w : Word) : (s.setHl w).regs.pc = s.regs.pc := by rfl
@[simp] theorem State.setAf_sp (s : State) (w : Word) : (s.setAf w).regs.sp = s.regs.sp := by rfl
@[simp] theorem State.setAf_pc (s : State) (w : Word) : (s.setAf w).regs.pc = s.regs.pc := by rfl
@[simp] theorem State.setPair_pc (s : State) (p : Pair) (w : Word) : (s.setPair p w).regs.pc = s.regs.pc := by cases p <;> rfl
@[simp] theorem State.setStackPair_sp (s : State) (p : StackPair) (w : Word) : (s.setStackPair p w).regs.sp = s.regs.sp := by cases p <;> rfl
@[simp] theorem State.setStackPair_pc (s : State) (p : StackPair) (w : Word) : (s.setStackPair p w).regs.pc = s.regs.pc := by cases p <;> rfl
@[simp] theorem State.setSp_sp (s : State) (w : Word) : (s.setSp w).regs.sp = w := rfl
@[simp] theorem State.setPc_pc (s : State) (w : Word) : (s.setPc w).regs.pc = w := rfl

@[simp] theorem State.flagByte_setReg (s : State) (r : Reg8) (v : Byte) : (s.setReg r v).flagByte = s.flagByte := by cases r <;> rfl
@[simp] theorem State.flags_setReg (s : State) (r : Reg8) (v : Byte) : (s.setReg r v).flags = s.flags := by cases r <;> rfl
@[simp] theorem State.flagByte_setPc (s : State) (w : Word) : (s.setPc w).flagByte = s.flagByte := by rfl
@[simp] theorem State.flags_setPc (s : State) (w : Word) : (s.setPc w).flags = s.flags := by rfl
@[simp] theorem State.flagByte_setSp (s : State) (w : Word) : (s.setSp w).flagByte = s.flagByte := by rfl
@[simp] theorem State.flags_setSp (s : State) (w : Word) : (s.setSp w).flags = s.flags := by rfl
@[simp] theorem State.flagByte_setBc (s : State) (w : Word) : (s.setBc w).flagByte = s.flagByte := by rfl
@[simp] theorem State.flags_setBc (s : State) (w : Word) : (s.setBc w).flags = s.flags := by rfl
@[simp] theorem State.flagByte_setDe (s : State) (w : Word) : (s.setDe w).flagByte = s.flagByte := by rfl
@[simp] theorem State.flags_setDe (s : State) (w : Word) : (s.setDe w).flags = s.flags := by rfl
@[simp] theorem State.flagByte_setHl (s : State) (w : Word) : (s.setHl w).flagByte = s.flagByte := by rfl
@[simp] theorem State.flags_setHl (s : State) (w : Word) : (s.setHl w).flags = s.flags := by rfl
@[simp] theorem State.flagByte_setPair (s : State) (p : Pair) (w : Word) : (s.setPair p w).flagByte = s.flagByte := by cases p <;> rfl
@[simp] theorem State.flags_setPair (s : State) (p : Pair) (w : Word) : (s.setPair p w).flags = s.flags := by cases p <;> rfl
@[simp] theorem State.flagByte_raise (s : State) (e : StepError) : (s.raise e).flagByte = s.flagByte := rfl
@[simp] theorem State.flags_raise (s : State) (e : StepError) : (s.raise e).flags = s.flags := rfl
@[simp] theorem State.bc_raise (s : State) (e : StepError) : (s.raise e).bc = s.bc := rfl
@[simp] theorem State.de_raise (s : State) (e : StepError) : (s.raise e).de = s.de := rfl
@[simp] theorem State.hl_raise (s : State) (e : StepError) : (s.raise e).hl = s.hl := rfl
@[simp] theorem State.af_raise (s : State) (e : StepError) : (s.raise e).af = s.af := rfl
@[simp] theorem State.flagByte_request (s : State) (k : IntKind) : (s.request k).flagByte = s.flagByte := rfl
@[simp] theorem State.flags_request (s : State) (k : IntKind) : (s.request k).flags = s.flags := rfl
@[simp] theorem State.bc_request (s : State) (k : IntKind) : (s.request k).bc = s.bc := rfl
@[simp] theorem State.de_request (s : State) (k : IntKind) : (s.request k).de = s.de := rfl
@[simp] theorem State.hl_request (s : State) (k : IntKind) : (s.request k).hl = s.hl := rfl
@[simp] theorem State.af_request (s : State) (k : IntKind) : (s.request k).af = s.af := rfl
@[simp] theorem State.flagByte_setMem (s : State) (i : MemId) (m : Memory) : (s.setMem i m).flagByte = s.flagByte := by cases i <;> rfl
@[simp] theorem State.flags_setMem (s : State) (i : MemId) (m : Memory) : (s.setMem i m).flags = s.flags := by cases i <;> rfl
@[simp] theorem State.bc_setMem (s : State) (i : MemId) (m : Memory) : (s.setMem i m).bc = s.bc := by cases i <;> rfl
@[simp] theorem State.de_setMem (s : State) (i : MemId) (m : Memory) : (s.setMem i m).de = s.de := by cases i <;> rfl
@[simp] theorem State.hl_setMem (s : State) (i : MemId) (m : Memory) : (s.setMem i m).hl = s.hl := by cases i <;> rfl
@[simp] theorem State.af_setMem (s : State) (i : MemId) (m : Memory) : (s.setMem i m).af = s.af := by cases i <;> rfl
@[simp] theorem State.bc_setFlags (s : State) (f : Flags) : (s.setFlags f).bc = s.bc := rfl
@[simp] theorem State.de_setFlags (s : State) (f : Flags) : (s.setFlags f).de = s.de := rfl
@[simp] theorem State.hl_setFlags (s : State) (f : Flags) : (s.setFlags f).hl = s.hl := rfl
@[simp] theorem State.bc_setFlagByte (s : State) (v : Byte) : (s.setFlagByte v).bc = s.bc := rfl
@[simp] theorem State.de_setFlagByte (s : State) (v : Byte) : (s.setFlagByte v).de = s.de := rfl
@[simp] theorem State.hl_setFlagByte (s : State) (v : Byte) : (s.setFlagByte v).hl = s.hl := rfl
@[simp] theorem State.bc_setPc (s : State) (w : Word) : (s.setPc w).bc = s.bc := rfl
@[simp] theorem State.de_setPc (s : State) (w : Word) : (s.setPc w).de = s.de := rfl
@[simp] theorem State.hl_setPc (s : State) (w : Word) : (s.setPc w).hl = s.hl := rfl
@[simp] theorem State.bc_setSp (s : State) (w : Word) : (s.setSp w).bc = s.bc := rfl
@[simp] theorem State.de_setSp (s : State) (w : Word) : (s.setSp w).de = s.de := rfl
@[simp] theorem State.hl_setSp (s : State) (w : Word) : (s.setSp w).hl = s.hl := rfl
@[simp] theorem State.af_setPc (s : State) (w : Word) : (s.setPc w).af = s.af := rfl
@[simp] theorem State.af_setSp (s : State) (w : Word) : (s.setSp w).af = s.af := rfl

@[simp] theorem concat_hi_lo (w : Word) : concat16 (hiByte w) (loByte w) = w := by
  simp only [concat16, hiByte, loByte]
  apply BitVec.eq_of_getLsbD_eq
  intro i hi
  simp only [BitVec.getLsbD_append, BitVec.getLsbD_extractLsb']
  split <;> simp_all
  omega


@[simp] theorem hiByte_concat (h l : Byte) : hiByte (concat16 h l) = h := by
  apply BitVec.eq_of_getLsbD_eq
  intro i hi
  simp only [hiByte, concat16, BitVec.getLsbD_extractLsb', BitVec.getLsbD_append]
  have : ¬ (8 + i < 8) := by omega
  simp [hi, this]

@[simp] theorem loByte_concat (h l : Byte) : loByte (concat16 h l) = l := by
  apply BitVec.eq_of_getLsbD_eq
  intro i hi
  simp only [loByte, concat16, BitVec.getLsbD_extractLsb', BitVec.getLsbD_append]
  simp [hi]

@[simp] theorem State.bc_setBc (s : State) (w : Word) : (s.setBc w).bc = w := concat_hi_lo w
@[simp] theorem State.de_setDe (s : State) (w : Word) : (s.setDe w).de = w := concat_hi_lo w
@[simp] theorem State.hl_setHl (s : State) (w : Word) : (s.setHl w).hl = w := concat_hi_lo w

@[simp] theorem State.pair_setPair (s : State) (p : Pair) (w : Word) : (s.setPair p w).pair p = w := by
  cases p <;> simp [State.setPair, State.pair]

theorem nibble_mask (v : Byte) : v &&& 0xF0 &&& 0xF0 = v &&& 0xF0 := by
  rw [BitVec.and_assoc]; rfl

/-- F is read back with its low nibble cleared. -/
@[simp] theorem State.flagByte_setFlagByte (s : State) (v : Byte) : (s.setFlagByte v).flagByte = v &&& 0xF0 := nibble_mask v

theorem flagsOf_toByte (f : Flags) : flagsOf (f.toByte &&& 0xF0) = f := by
  obtain ⟨z, n, h, c⟩ := f
  cases z <;> cases n <;> cases h <;> cases c <;> decide

@[simp] theorem State.flags_setFlags (s : State) (f : Flags) : (s.setFlags f).flags = f := by
  show flagsOf (f.toByte &&& 0xF0 &&& 0xF0) = f
  rw [nibble_mask, flagsOf_toByte]

/-- The stored F keeps its low nibble zero whatever is written (10_state R103). -/
theorem low_nibble_zero (v : Byte) : v &&& 0xF0 &&& 0x0F = 0 := by
  rw [BitVec.and_assoc]; simp

end Sys2Proof.Machine
end

