-- ==== Sys2Proof/Laws/Bus.lean ====
section
/-! SUPPORT. The bus: what an access depends on, what it leaves unchanged, the invariant it keeps, and what a DMA copy does. -/

namespace Sys2Proof.Machine

theorem SameSetup.refl (s : State) : SameSetup s s := ⟨rfl, rfl, rfl, rfl, rfl, rfl, rfl, rfl⟩

theorem SameSetup.trans {s t u : State} (h : SameSetup s t) (k : SameSetup t u) : SameSetup s u :=
  ⟨k.cfg.trans h.cfg, k.colorMode.trans h.colorMode, k.pedantic.trans h.pedantic, k.watchpoints.trans h.watchpoints,
    k.rom.trans h.rom, k.romLength.trans h.romLength, k.romBanks.trans h.romBanks, k.ramSize.trans h.ramSize⟩

theorem BusKeeps.refl (s : State) : BusKeeps s s :=
  ⟨.refl s, rfl, rfl, rfl, rfl, rfl, rfl, rfl, rfl, rfl, rfl, rfl, rfl⟩

theorem BusKeeps.trans {s t u : State} (h : BusKeeps s t) (k : BusKeeps t u) : BusKeeps s u :=
  ⟨h.setup.trans k.setup, k.regs.trans h.regs, k.ime.trans h.ime, k.eiPending.trans h.eiPending, k.halted.trans h.halted,
    k.doubleSpeed.trans h.doubleSpeed, k.cycles.trans h.cycles, k.lastPump.trans h.lastPump, k.fault.trans h.fault,
    k.debugHalt.trans h.debugHalt, k.stepResult.trans h.stepResult, k.breakpoints.trans h.breakpoints,
    k.intBreakpoints.trans h.intBreakpoints⟩

theorem ExecKeeps.refl (s : State) : ExecKeeps s s := ⟨.refl s, rfl, rfl, rfl, rfl⟩

theorem ExecKeeps.trans {s t u : State} (h : ExecKeeps s t) (k : ExecKeeps t u) : ExecKeeps s u :=
  ⟨h.setup.trans k.setup, k.cycles.trans h.cycles, k.lastPump.trans h.lastPump, k.breakpoints.trans h.breakpoints,
    k.intBreakpoints.trans h.intBreakpoints⟩

theorem BusKeeps.exec {s t : State} (h : BusKeeps s t) : ExecKeeps s t :=
  ⟨h.setup, h.cycles, h.lastPump, h.breakpoints, h.intBreakpoints⟩

/-! What an access depends on. -/

/-- A bus read does not depend on the processor's registers. -/
theorem State.memRead_regs (s : State) (r : Regs) (a : Word) : ({ s with regs := r } : State).memRead a = s.memRead a := rfl

theorem State.target_regs (s : State) (r : Regs) (a : Word) : ({ s with regs := r } : State).target a = s.target a := rfl

theorem State.watchHit_regs (s : State) (r : Regs) (a : Word) : ({ s with regs := r } : State).watchHit a = s.watchHit a := rfl

@[simp] theorem State.memRead_setReg (s : State) (r : Reg8) (v : Byte) (a : Word) : (s.setReg r v).memRead a = s.memRead a := by
  cases r <;> rfl
@[simp] theorem State.memRead_setFlags (s : State) (f : Flags) (a : Word) : (s.setFlags f).memRead a = s.memRead a := rfl
@[simp] theorem State.memRead_setPc (s : State) (w a : Word) : (s.setPc w).memRead a = s.memRead a := rfl
@[simp] theorem State.memRead_setSp (s : State) (w a : Word) : (s.setSp w).memRead a = s.memRead a := rfl
@[simp] theorem State.memRead_setHl (s : State) (w a : Word) : (s.setHl w).memRead a = s.memRead a := rfl
@[simp] theorem State.memRead_setPair (s : State) (p : Pair) (w a : Word) : (s.setPair p w).memRead a = s.memRead a := by
  cases p <;> rfl
@[simp] theorem State.memRead_setStackPair (s : State) (p : StackPair) (w a : Word) :
    (s.setStackPair p w).memRead a = s.memRead a := by
  cases p <;> rfl
@[simp] theorem State.memRead_raise (s : State) (e : StepError) (a : Word) : (s.raise e).memRead a = s.memRead a := rfl

@[simp] theorem State.watchHit_setReg (s : State) (r : Reg8) (v : Byte) (a : Word) : (s.setReg r v).watchHit a = s.watchHit a := by
  cases r <;> rfl
@[simp] theorem State.watchHit_setSp (s : State) (w a : Word) : (s.setSp w).watchHit a = s.watchHit a := rfl
@[simp] theorem State.watchHit_setPc (s : State) (w a : Word) : (s.setPc w).watchHit a = s.watchHit a := rfl
@[simp] theorem State.watchHit_setMem (s : State) (i : MemId) (m : Memory) (a : Word) :
    (s.setMem i m).watchHit a = s.watchHit a := by
  cases i <;> rfl

@[simp] theorem State.target_setReg (s : State) (r : Reg8) (v : Byte) (a : Word) : (s.setReg r v).target a = s.target a := by
  cases r <;> rfl
@[simp] theorem State.target_setSp (s : State) (w a : Word) : (s.setSp w).target a = s.target a := rfl
@[simp] theorem State.target_setPc (s : State) (w a : Word) : (s.setPc w).target a = s.target a := rfl
@[simp] theorem State.target_setMem (s : State) (i : MemId) (m : Memory) (a : Word) : (s.setMem i m).target a = s.target a := by
  cases i <;> rfl

@[simp] theorem State.mem_setReg (s : State) (r : Reg8) (v : Byte) (j : MemId) : (s.setReg r v).mem j = s.mem j := by
  cases r <;> cases j <;> rfl
@[simp] theorem State.mem_setSp (s : State) (w : Word) (j : MemId) : (s.setSp w).mem j = s.mem j := by cases j <;> rfl
@[simp] theorem State.mem_setPc (s : State) (w : Word) (j : MemId) : (s.setPc w).mem j = s.mem j := by cases j <;> rfl

theorem State.MemoriesWf.mem {s : State} (h : s.MemoriesWf) (i : MemId) : (s.mem i).wf = true := by
  cases i
  · exact h.wram
  · exact h.hram
  · exact h.vram
  · exact h.oam
  · exact h.extRam

theorem State.MemoriesWf.setMem {s : State} (h : s.MemoriesWf) (i : MemId) (m : Memory) (hm : m.wf = true) :
    (s.setMem i m).MemoriesWf := by
  obtain ⟨h1, h2, h3, h4, h5, h6, h7, h8, h9⟩ := h
  cases i <;> constructor <;> assumption

/-! One read and one write. -/

theorem State.memRead_mem {s : State} {a : Word} {i : MemId} {off : Nat} (hw : s.watchHit a = none)
    (ht : s.target a = .mem i off) : s.memRead a = .ok ((s.mem i).read off) := by
  simp only [State.memRead, hw, ht]

theorem State.memWrite_mem {s : State} {a : Word} {i : MemId} {off : Nat} (v : Byte) (hw : s.watchHit a = none)
    (ht : s.target a = .mem i off) : s.memWrite a v = .ok (s.setMem i ((s.mem i).write off v)) := by
  simp only [State.memWrite, hw, ht]

/-- Replacing a plain memory changes the read of an address only if the address reaches a byte of it that changed. -/
theorem State.memRead_setMem {s : State} {i : MemId} {m : Memory} {b : Word}
    (h : ∀ off, s.target b = .mem i off → m.read off = (s.mem i).read off) : (s.setMem i m).memRead b = s.memRead b := by
  have hio : ∀ d r, (s.setMem i m).ioRead d r = s.ioRead d r := by
    intro d r
    cases i <;> cases r <;> rfl
  have hrom : (s.setMem i m).romByte b = s.romByte b := by cases i <;> rfl
  have hun : (s.setMem i m).unmappedRead b = s.unmappedRead b := by cases i <;> rfl
  have hie : (s.setMem i m).ie = s.ie := by cases i <;> rfl
  have hdr : (s.setMem i m).draw = s.draw := by cases i <;> rfl
  simp only [State.memRead, State.watchHit_setMem, State.target_setMem, hio, hrom, hun, hie, hdr]
  cases s.watchHit b with
  | some w => rfl
  | none =>
    cases ht : s.target b with
    | mem j off =>
      by_cases hj : j = i
      · subst hj
        simp only [State.mem_setMem]
        rw [h off ht]
      · simp only [State.mem_setMem_ne s m hj]
    | _ => rfl

/-- A byte stored in a plain memory is read back, and every address that does not reach it reads as before. -/
theorem State.storedByte {s : State} {a : Word} {i : MemId} {off : Nat} (v : Byte) (hm : s.MemoriesWf)
    (hw : s.watchHit a = none) (ht : s.target a = .mem i off) :
    StoredByte s (s.setMem i ((s.mem i).write off v)) a v := by
  constructor
  · rw [State.memRead_mem (by simpa using hw) (by simpa using ht), State.mem_setMem, Memory.read_write_same _ _ _ (hm.mem i)]
  · intro b hb
    apply State.memRead_setMem
    intro off' h
    apply Memory.read_write_ne
    rintro rfl
    exact hb (h.trans ht.symm)

/-! What a write leaves unchanged. -/

theorem State.dmaStore_keeps (s : State) (a : Word) (v : Byte) : BusKeeps s (s.dmaStore a v).state := by
  unfold State.dmaStore
  split
  · exact .refl s
  · simp only [Run.state]
    split <;> exact ⟨⟨rfl, rfl, rfl, rfl, rfl, rfl, rfl, rfl⟩, rfl, rfl, rfl, rfl, rfl, rfl, rfl, rfl, rfl, rfl, rfl, rfl⟩

theorem dmaCopy_keeps (src dst : Nat → Word) (n i : Nat) (s : State) : BusKeeps s (dmaCopy src dst n i s).state := by
  induction n generalizing i s with
  | zero => exact .refl s
  | succ n ih =>
    simp only [dmaCopy]
    split
    · exact .refl s
    · rename_i b _
      have hs := s.dmaStore_keeps (dst i) b
      split
      · rename_i h
        rw [h] at hs
        exact hs
      · rename_i h
        rw [h] at hs
        exact hs.trans (ih _ _)

theorem State.ioWrite_keeps (s : State) (r : IoReg) (v : Byte) : BusKeeps s (s.ioWrite r v).state := by
  cases r
  case dma =>
    have h : BusKeeps s { s with dma := v } :=
      ⟨⟨rfl, rfl, rfl, rfl, rfl, rfl, rfl, rfl⟩, rfl, rfl, rfl, rfl, rfl, rfl, rfl, rfl, rfl, rfl, rfl, rfl⟩
    exact h.trans (dmaCopy_keeps _ _ _ _ _)
  case hdma5 =>
    have h : BusKeeps s { s with hdma5 := v } :=
      ⟨⟨rfl, rfl, rfl, rfl, rfl, rfl, rfl, rfl⟩, rfl, rfl, rfl, rfl, rfl, rfl, rfl, rfl, rfl, rfl, rfl, rfl⟩
    exact h.trans (dmaCopy_keeps _ _ _ _ _)
  all_goals exact ⟨⟨rfl, rfl, rfl, rfl, rfl, rfl, rfl, rfl⟩, rfl, rfl, rfl, rfl, rfl, rfl, rfl, rfl, rfl, rfl, rfl, rfl⟩

theorem Cart.bankWrite_keeps {c d : Cart} {a : Nat} {v : Byte} (h : c.bankWrite a v = some d) :
    d.rom = c.rom ∧ d.romLength = c.romLength ∧ d.romBanks = c.romBanks ∧ d.ramSize = c.ramSize ∧ d.ram = c.ram := by
  unfold Cart.bankWrite at h
  split at h
  · simp at h
  · simp only [Option.some.injEq] at h
    subst h
    exact ⟨rfl, rfl, rfl, rfl, rfl⟩
  · simp only [Option.some.injEq] at h
    subst h
    exact ⟨rfl, rfl, rfl, rfl, rfl⟩

/-- Everything a bus write leaves unchanged, whether it succeeds or raises. -/
theorem State.memWrite_keeps (s : State) (a : Word) (v : Byte) : BusKeeps s (s.memWrite a v).state := by
  unfold State.memWrite
  split
  · exact .refl s
  · split
    · unfold State.unmappedWrite
      split <;> exact .refl s
    · exact .refl s
    · exact .refl s
    · rename_i i off _
      cases i <;>
        exact ⟨⟨rfl, rfl, rfl, rfl, rfl, rfl, rfl, rfl⟩, rfl, rfl, rfl, rfl, rfl, rfl, rfl, rfl, rfl, rfl, rfl, rfl⟩
    · split
      · rename_i c hc
        obtain ⟨h1, h2, h3, h4, _⟩ := Cart.bankWrite_keeps hc
        exact ⟨⟨rfl, rfl, rfl, rfl, h1, h2, h3, h4⟩, rfl, rfl, rfl, rfl, rfl, rfl, rfl, rfl, rfl, rfl, rfl, rfl⟩
      · unfold State.unmappedWrite
        split <;> exact .refl s
    · have h : BusKeeps s { s with draw := s.draw + 1 } :=
        ⟨⟨rfl, rfl, rfl, rfl, rfl, rfl, rfl, rfl⟩, rfl, rfl, rfl, rfl, rfl, rfl, rfl, rfl, rfl, rfl, rfl, rfl⟩
      exact h.trans (State.ioWrite_keeps _ _ _)
    · exact ⟨⟨rfl, rfl, rfl, rfl, rfl, rfl, rfl, rfl⟩, rfl, rfl, rfl, rfl, rfl, rfl, rfl, rfl, rfl, rfl, rfl, rfl⟩

theorem State.memWrite_ok_keeps {s t : State} {a : Word} {v : Byte} (h : s.memWrite a v = .ok t) : BusKeeps s t := by
  have := s.memWrite_keeps a v
  rwa [h] at this

theorem State.memWrite_err_keeps {s t : State} {a : Word} {v : Byte} {e : StepError} (h : s.memWrite a v = .err e t) :
    BusKeeps s t := by
  have := s.memWrite_keeps a v
  rwa [h] at this

/-! What a write keeps of the invariant. -/

/-- What a bus access keeps of the invariant, part by part. -/
structure BusSafe (s t : State) : Prop where
  colorMode : t.colorMode = s.colorMode
  cycles : t.cycles = s.cycles
  memories : s.MemoriesWf → t.MemoriesWf
  prep : s.colorMode = false → t.speedPrep = s.speedPrep
  bank1 : (∀ r, s.cart.controller = .mbc1 r → r.bank1 ≠ 0) → ∀ r, t.cart.controller = .mbc1 r → r.bank1 ≠ 0
  started : s.video.videoBase ≤ s.cycles → t.video.videoBase ≤ t.cycles

theorem BusSafe.refl (s : State) : BusSafe s s := ⟨rfl, rfl, id, fun _ => rfl, id, id⟩

theorem BusSafe.trans {s t u : State} (h : BusSafe s t) (k : BusSafe t u) : BusSafe s u :=
  ⟨k.colorMode.trans h.colorMode, k.cycles.trans h.cycles, k.memories ∘ h.memories,
    fun hc => (k.prep (h.colorMode.trans hc)).trans (h.prep hc), k.bank1 ∘ h.bank1, k.started ∘ h.started⟩

theorem State.dmaStore_safe (s : State) (a : Word) (v : Byte) : BusSafe s (s.dmaStore a v).state := by
  unfold State.dmaStore
  split
  · exact .refl s
  · simp only [Run.state]
    split <;>
      exact ⟨rfl, rfl, fun hm => hm.setMem _ _ (Memory.wf_write _ _ _ (hm.mem _)), fun _ => rfl, id, id⟩

theorem dmaCopy_safe (src dst : Nat → Word) (n i : Nat) (s : State) : BusSafe s (dmaCopy src dst n i s).state := by
  induction n generalizing i s with
  | zero => exact .refl s
  | succ n ih =>
    simp only [dmaCopy]
    split
    · exact .refl s
    · rename_i b _
      have hs := s.dmaStore_safe (dst i) b
      split
      · rename_i h
        rw [h] at hs
        exact hs
      · rename_i h
        rw [h] at hs
        exact hs.trans (ih _ _)

theorem Audio.write_wave (u : Audio) (r : AudioReg) (v : Byte) (t : Nat) : (u.write r v t).wave = u.wave := by
  cases r <;> simp only [Audio.write] <;> first | rfl | (split <;> rfl)

theorem lookup_colorIoMap_false {n : Nat} (h : ioRegAt false n = some .key1) : False := by
  unfold ioRegAt at h
  split at h
  · simp at h
  · split at h
    · rename_i r hr
      simp only [Option.some.injEq] at h
      subst h
      simp only [ioMap, List.lookup] at hr
      repeat' split at hr
      all_goals simp at hr
    · simp at h

theorem ioTarget_key1_false {n : Nat} (h : ioTarget false n = .io .key1) : False := by
  unfold ioTarget at h
  split at h
  · rename_i r hr
    simp only [Target.io.injEq] at h
    subst h
    exact lookup_colorIoMap_false hr
  · contradiction

theorem extTarget_ne_io {c : Cart} {n : Nat} {r : IoReg} (h : extTarget c n = .io r) : False := by
  unfold extTarget at h
  split at h <;> contradiction

theorem State.ioWrite_safe (s : State) (r : IoReg) (v : Byte) (hr : s.colorMode = false → r ≠ .key1) :
    BusSafe s (s.ioWrite r v).state := by
  cases r
  case dma =>
    have h : BusSafe s { s with dma := v } :=
      ⟨rfl, rfl, fun ⟨h1, h2, h3, h4, h5, h6, h7, h8, h9⟩ => ⟨h1, h2, h3, h4, h5, h6, h7, h8, h9⟩, fun _ => rfl, id, id⟩
    exact h.trans (dmaCopy_safe _ _ _ _ _)
  case hdma5 =>
    have h : BusSafe s { s with hdma5 := v } :=
      ⟨rfl, rfl, fun ⟨h1, h2, h3, h4, h5, h6, h7, h8, h9⟩ => ⟨h1, h2, h3, h4, h5, h6, h7, h8, h9⟩, fun _ => rfl, id, id⟩
    exact h.trans (dmaCopy_safe _ _ _ _ _)
  case audio a =>
    refine ⟨rfl, rfl, fun ⟨h1, h2, h3, h4, h5, h6, h7, h8, h9⟩ => ⟨h1, h2, h3, h4, h5, h6, h7, h8, ?_⟩, fun _ => rfl, id, id⟩
    rw [← h9]
    exact congrArg Memory.wf (Audio.write_wave _ a v _)
  case wave k =>
    exact ⟨rfl, rfl, fun ⟨h1, h2, h3, h4, h5, h6, h7, h8, h9⟩ =>
      ⟨h1, h2, h3, h4, h5, h6, h7, h8, Memory.wf_write _ _ _ h9⟩, fun _ => rfl, id, id⟩
  case bcpd =>
    exact ⟨rfl, rfl, fun ⟨h1, h2, h3, h4, h5, h6, h7, h8, h9⟩ =>
      ⟨h1, h2, h3, h4, Memory.wf_write _ _ _ h5, h6, h7, h8, h9⟩, fun _ => rfl, id, id⟩
  case ocpd =>
    exact ⟨rfl, rfl, fun ⟨h1, h2, h3, h4, h5, h6, h7, h8, h9⟩ =>
      ⟨h1, h2, h3, h4, h5, Memory.wf_write _ _ _ h6, h7, h8, h9⟩, fun _ => rfl, id, id⟩
  case key1 =>
    exact ⟨rfl, rfl, fun ⟨h1, h2, h3, h4, h5, h6, h7, h8, h9⟩ => ⟨h1, h2, h3, h4, h5, h6, h7, h8, h9⟩,
      fun hc => absurd rfl (hr hc), id, id⟩
  case lcdc =>
    refine ⟨rfl, rfl, fun ⟨h1, h2, h3, h4, h5, h6, h7, h8, h9⟩ => ⟨h1, h2, h3, h4, h5, h6, h7, h8, h9⟩, fun _ => rfl, id, ?_⟩
    intro h
    simp only [State.ioWrite, State.writeLcdc, Run.state]
    split
    · exact Nat.le_refl _
    · exact h
  all_goals
    exact ⟨rfl, rfl, fun ⟨h1, h2, h3, h4, h5, h6, h7, h8, h9⟩ => ⟨h1, h2, h3, h4, h5, h6, h7, h8, h9⟩, fun _ => rfl, id, id⟩

theorem State.target_key1 {s : State} {a : Word} {r : IoReg} (h : s.target a = .io r) (hc : s.colorMode = false) : r ≠ .key1 := by
  rintro rfl
  unfold State.target at h
  simp only [hc] at h
  split at h
  case h_3 => exact extTarget_ne_io h
  case h_9 => exact ioTarget_key1_false h
  all_goals first | contradiction | (split at h <;> contradiction)

theorem Cart.bankWrite_bank1 {c d : Cart} {a : Nat} {v : Byte} (hc : c.bankWrite a v = some d)
    (hb : ∀ r, c.controller = .mbc1 r → r.bank1 ≠ 0) (r : Mbc1) (hr : d.controller = .mbc1 r) : r.bank1 ≠ 0 := by
  unfold Cart.bankWrite at hc
  split at hc
  · simp at hc
  · rename_i q hq
    simp only [Option.some.injEq] at hc
    subst hc
    simp only [BankController.mbc1.injEq] at hr
    subst hr
    have := hb q hq
    unfold Mbc1.write
    split
    · exact this
    · split
      · simp only []
        split
        · simp
        · assumption
      · split <;> exact this
  · simp only [Option.some.injEq] at hc
    subst hc
    simp at hr

/-- What a bus write keeps of the invariant, whether it succeeds or raises. -/
theorem State.memWrite_safe (s : State) (a : Word) (v : Byte) : BusSafe s (s.memWrite a v).state := by
  unfold State.memWrite
  split
  · exact .refl s
  · split
    · unfold State.unmappedWrite
      split <;> exact .refl s
    · exact .refl s
    · exact .refl s
    · rename_i i off _
      have hw : s.MemoriesWf → (s.setMem i ((s.mem i).write off v)).MemoriesWf :=
        fun hm => hm.setMem _ _ (Memory.wf_write _ _ _ (hm.mem _))
      cases i <;> exact ⟨rfl, rfl, hw, fun _ => rfl, id, id⟩
    · split
      · rename_i c hc
        obtain ⟨e1, _, _, _, e5⟩ := Cart.bankWrite_keeps hc
        exact ⟨rfl, rfl, fun ⟨h1, h2, h3, h4, h5, h6, h7, h8, h9⟩ =>
          ⟨h1, h2, h3, h4, h5, h6, (congrArg Memory.wf e1).trans h7, (congrArg Memory.wf e5).trans h8, h9⟩,
          fun _ => rfl, fun hb => Cart.bankWrite_bank1 hc hb, id⟩
      · unfold State.unmappedWrite
        split <;> exact .refl s
    · rename_i r hr
      have h : BusSafe s { s with draw := s.draw + 1 } :=
        ⟨rfl, rfl, fun ⟨h1, h2, h3, h4, h5, h6, h7, h8, h9⟩ => ⟨h1, h2, h3, h4, h5, h6, h7, h8, h9⟩, fun _ => rfl, id, id⟩
      exact h.trans (State.ioWrite_safe _ r v fun hc => State.target_key1 hr hc)
    · exact ⟨rfl, rfl, fun ⟨h1, h2, h3, h4, h5, h6, h7, h8, h9⟩ => ⟨h1, h2, h3, h4, h5, h6, h7, h8, h9⟩, fun _ => rfl, id, id⟩

/-! A DMA copy, byte after byte. -/

/-- Where every destination, when unwatched, stores its byte at one offset of one memory, `dmaCopy` is a copy of its bytes in
order, up to the first access that raises. -/
theorem dmaCopy_copies (src dst : Nat → Word) (i : MemId) (off : Nat → Nat) (n k : Nat) (s : State)
    (h : ∀ j (t : State) (b : Byte), j < n → t.watchpoints = s.watchpoints → t.vramBank = s.vramBank →
      t.dmaStore (dst (k + j)) b =
        if dst (k + j) ∈ s.watchpoints then .err (.busError (dst (k + j))) t
        else .ok (t.setMem i ((t.mem i).write (off (k + j)) b))) :
    CopiesBytes s (dmaCopy src dst n k s) n (fun j => src (k + j)) (fun j => dst (k + j)) i (fun j => off (k + j)) := by
  induction n generalizing k s with
  | zero => exact ⟨0, fun _ => s, rfl, fun _ h => absurd h (Nat.not_lt_zero _), .inl ⟨rfl, rfl⟩⟩
  | succ n ih =>
    unfold dmaCopy
    cases hr : s.memRead (src k) with
    | error e => exact ⟨0, fun _ => s, rfl, fun _ h => absurd h (Nat.not_lt_zero _), .inr ⟨n.succ_pos, e, rfl, .inl hr⟩⟩
    | ok b =>
      have hs := h 0 s b n.succ_pos rfl rfl
      simp only [Nat.add_zero] at hs
      simp only [hs]
      by_cases hw : dst k ∈ s.watchpoints
      · rw [if_pos hw]
        exact ⟨0, fun _ => s, rfl, fun _ h => absurd h (Nat.not_lt_zero _), .inr ⟨n.succ_pos, _, rfl, .inr ⟨b, hr, hw, rfl⟩⟩⟩
      · rw [if_neg hw]
        have hk : (s.setMem i ((s.mem i).write (off k) b)).watchpoints = s.watchpoints ∧
            (s.setMem i ((s.mem i).write (off k) b)).vramBank = s.vramBank := by cases i <;> exact ⟨rfl, rfl⟩
        obtain ⟨m, f, f0, fs, fe⟩ := ih (k + 1) (s.setMem i ((s.mem i).write (off k) b)) fun j t b hj h1 h2 => by
          have := h (j + 1) t b (Nat.succ_lt_succ hj) (h1.trans hk.1) (h2.trans hk.2)
          rw [hk.1, Nat.add_assoc, Nat.add_comm 1 j]
          exact this
        have ha : ∀ j, k + 1 + j = k + (j + 1) := fun j => by omega
        simp only [ha, hk.1] at fs fe
        refine ⟨m + 1, fun j => match j with | 0 => s | j + 1 => f j, rfl, ?_, ?_⟩
        · intro j hj
          cases j with
          | zero => exact ⟨b, hr, hw, f0⟩
          | succ j => exact fs j (Nat.lt_of_succ_lt_succ hj)
        · rcases fe with ⟨e1, e2⟩ | ⟨e1, e, e2, e3⟩
          · exact .inl ⟨by rw [e1], e2⟩
          · exact .inr ⟨Nat.succ_lt_succ e1, e, e2, e3⟩

end Sys2Proof.Machine
end

