-- ==== Sys2Proof/Laws/Decode.lean ====
section
/-! SUPPORT. How many bytes the decoder takes: what a fetch of `instrLength` bytes needs (30_encoding R302). -/

namespace Sys2Proof

/-- The bytes of an instruction whose opcode byte has the given form (R300). -/
def formBytes : Form → Nat
  | .op _ => 1
  | .imm8 _ => 2
  | .imm16 _ => 3
  | .cb => 2

/-- The lengths of R302 are the lengths of the forms. -/
theorem instrLength_formBytes (o : Byte) : instrLength o = formBytes (formOf o) := by
  have h : ∀ o : Byte, instrLength o = formBytes (formOf o) := by decide +kernel
  exact h o

/-- What decodes is at least an opcode byte, and the decoder takes the length that byte gives. -/
theorem decode_length {bs rest : List Byte} {i : Instr} (h : decode bs = .ok (i, rest)) :
    ∃ o t, bs = o :: t ∧ instrLength o + rest.length = t.length + 1 := by
  cases bs with
  | nil => simp [decode] at h
  | cons o t =>
    refine ⟨o, t, rfl, ?_⟩
    rw [instrLength_formBytes]
    simp only [decode] at h
    split at h <;> rename_i hf
    · simp only [Except.ok.injEq, Prod.mk.injEq] at h
      rw [hf, ← h.2, formBytes, Nat.add_comm]
    · simp only [Except.ok.injEq, Prod.mk.injEq] at h
      rw [hf, ← h.2, formBytes, List.length_cons]
      omega
    · simp only [Except.ok.injEq, Prod.mk.injEq] at h
      rw [hf, ← h.2, formBytes, List.length_cons, List.length_cons]
      omega
    · simp only [Except.ok.injEq, Prod.mk.injEq] at h
      rw [hf, ← h.2, formBytes, List.length_cons]
      omega
    · contradiction

end Sys2Proof
end

