-- ==== Sys2Proof/Laws/Ops.lean ====
section
/-! SUPPORT. The shared operations: what each can do, said once. `Plain s t` is what every instruction but DI, EI, RETI, HALT
and STOP does to the state outside registers and devices; an error adds `State.raise` to it. -/

namespace Sys2Proof.Machine

/-- `t` differs from `s` in registers and devices only, and keeps the invariant's parts. -/
structure Plain (s t : State) : Prop where
  keeps : ExecKeeps s t
  ime : t.ime = s.ime
  eiPending : t.eiPending = s.eiPending
  halted : t.halted = s.halted
  doubleSpeed : t.doubleSpeed = s.doubleSpeed
  fault : t.fault = s.fault
  debugHalt : t.debugHalt = s.debugHalt
  stepResult : t.stepResult = s.stepResult
  safe : BusSafe s t
  lowNibble : s.regs.f &&& 0x0F = 0 → t.regs.f &&& 0x0F = 0

theorem Plain.refl (s : State) : Plain s s := ⟨.refl s, rfl, rfl, rfl, rfl, rfl, rfl, rfl, .refl s, id⟩

theorem Plain.trans {s t u : State} (h : Plain s t) (k : Plain t u) : Plain s u :=
  ⟨h.keeps.trans k.keeps, k.ime.trans h.ime, k.eiPending.trans h.eiPending, k.halted.trans h.halted,
    k.doubleSpeed.trans h.doubleSpeed, k.fault.trans h.fault, k.debugHalt.trans h.debugHalt,
    k.stepResult.trans h.stepResult, h.safe.trans k.safe, k.lowNibble ∘ h.lowNibble⟩

/-- Other registers only, F's stored low nibble kept zero. -/
theorem Plain.regs (s : State) (r : Regs) (h : s.regs.f &&& 0x0F = 0 → r.f &&& 0x0F = 0) : Plain s { s with regs := r } :=
  ⟨⟨⟨rfl, rfl, rfl, rfl, rfl, rfl, rfl, rfl⟩, rfl, rfl, rfl, rfl⟩, rfl, rfl, rfl, rfl, rfl, rfl, rfl,
    ⟨rfl, rfl, fun ⟨h1, h2, h3, h4, h5, h6, h7, h8, h9⟩ => ⟨h1, h2, h3, h4, h5, h6, h7, h8, h9⟩, fun _ => rfl, id, id⟩, h⟩

theorem Plain.setReg (s : State) (r : Reg8) (v : Byte) : Plain s (s.setReg r v) := by
  cases r <;> exact .regs s _ id

theorem Plain.setFlagByte (s : State) (v : Byte) : Plain s (s.setFlagByte v) := .regs s _ fun _ => low_nibble_zero v

theorem Plain.setFlags (s : State) (f : Flags) : Plain s (s.setFlags f) := .setFlagByte s _

theorem Plain.setPc (s : State) (w : Word) : Plain s (s.setPc w) := .regs s _ id

theorem Plain.setSp (s : State) (w : Word) : Plain s (s.setSp w) := .regs s _ id

theorem Plain.setHl (s : State) (w : Word) : Plain s (s.setHl w) := .regs s _ id

theorem Plain.setPair (s : State) (p : Pair) (w : Word) : Plain s (s.setPair p w) := by
  cases p <;> exact .regs s _ id

theorem Plain.setStackPair (s : State) (p : StackPair) (w : Word) : Plain s (s.setStackPair p w) := by
  cases p
  case af => exact .regs s _ fun _ => low_nibble_zero _
  all_goals exact .regs s _ id

/-- A run whose state is `Plain` from `s`, whether it goes on or an error stopped it. -/
def Run.Plain (s : State) (r : Run) : Prop := Machine.Plain s r.state

theorem State.memWrite_plain (s : State) (a : Word) (v : Byte) : (s.memWrite a v).Plain s := by
  have h := s.memWrite_keeps a v
  exact ⟨h.exec, h.ime, h.eiPending, h.halted, h.doubleSpeed, h.fault, h.debugHalt, h.stepResult,
    s.memWrite_safe a v, fun hf => by rw [h.regs]; exact hf⟩

theorem State.readThen_plain {s : State} {a : Word} {k : Byte → Run} (h : ∀ v, (k v).Plain s) : (s.readThen a k).Plain s := by
  unfold State.readThen
  split
  · exact h _
  · exact Machine.Plain.refl s

theorem Run.andThen_plain {s : State} {r : Run} {k : State → Run} (hr : r.Plain s) (h : ∀ t, (k t).Plain t) :
    (r.andThen k).Plain s := by
  cases r with
  | ok t => exact Machine.Plain.trans hr (h t)
  | err e t => exact hr

theorem State.writeThen_plain {s : State} {a : Word} {v : Byte} {k : State → Run} (h : ∀ t, (k t).Plain t) :
    (s.writeThen a v k).Plain s := Run.andThen_plain (s.memWrite_plain a v) h

theorem Run.Plain.after {s t : State} {r : Run} (h : Machine.Plain s t) (hr : r.Plain t) : r.Plain s := h.trans hr

theorem State.memWrite16_plain (s : State) (a w : Word) : (s.memWrite16 a w).Plain s :=
  State.writeThen_plain fun t => t.memWrite_plain _ _

theorem State.push16_plain (s : State) (w : Word) : (s.push16 w).Plain s :=
  Run.Plain.after (.setSp s _) (State.writeThen_plain fun t => Run.Plain.after (.setSp t _) (State.memWrite_plain _ _ _))

theorem State.pop16_plain {s : State} {k : Word → State → Run} (h : ∀ w t, (k w t).Plain t) : (s.pop16 k).Plain s :=
  State.readThen_plain fun _ => Run.Plain.after (.setSp s _)
    (State.readThen_plain fun _ => Run.Plain.after (.setSp _ _) (h _ _))

/-- What an instruction answers when it is `Plain`: it completes so, or raises an error in such a state. -/
def PlainResult (s : State) (r : Result) : Prop := ∃ t, Plain s t ∧ (r = .next t ∨ ∃ e, r = .next (t.raise e))

theorem done_plain {s t : State} (h : Plain s t) : PlainResult s (done t) := ⟨t, h, .inl rfl⟩

theorem Run.result_plain {s : State} {r : Run} (h : r.Plain s) : PlainResult s r.result := by
  cases r with
  | ok t => exact ⟨t, h, .inl rfl⟩
  | err e t => exact ⟨t, h, .inr ⟨e, rfl⟩⟩

theorem State.withByteAt_plain {s : State} {a : Word} {k : Byte → State} (h : ∀ v, Plain s (k v)) :
    PlainResult s (s.withByteAt a k) := Run.result_plain (State.readThen_plain h)

theorem State.storeByte_plain {s : State} {a : Word} {v : Byte} {k : State → State} (h : ∀ t, Plain t (k t)) :
    PlainResult s (s.storeByte a v k) := Run.result_plain (State.writeThen_plain h)

theorem State.modifyAtHL_plain (s : State) (f : Byte → Byte × Flags) : PlainResult s (s.modifyAtHL f) :=
  Run.result_plain (State.readThen_plain fun _ => State.writeThen_plain fun t => .setFlags t _)

theorem State.replaceAtHL_plain (s : State) (f : Byte → Byte) : PlainResult s (s.replaceAtHL f) :=
  Run.result_plain (State.readThen_plain fun _ => s.memWrite_plain _ _)

/-! How the runs end when every access completes. -/

@[simp] theorem State.readThen_ok {s : State} {a : Word} {v : Byte} {k : Byte → Run} (h : s.memRead a = .ok v) :
    s.readThen a k = k v := by
  simp only [State.readThen, h]

@[simp] theorem State.readThen_error {s : State} {a : Word} {e : StepError} {k : Byte → Run} (h : s.memRead a = .error e) :
    s.readThen a k = .err e s := by
  simp only [State.readThen, h]

theorem State.writeThen_ok {s t : State} {a : Word} {v : Byte} {k : State → Run} (h : s.memWrite a v = .ok t) :
    s.writeThen a v k = k t := by
  simp only [State.writeThen, h, Run.andThen]

theorem State.writeThen_err {s t : State} {a : Word} {v : Byte} {e : StepError} {k : State → Run}
    (h : s.memWrite a v = .err e t) : s.writeThen a v k = .err e t := by
  simp only [State.writeThen, h, Run.andThen]

theorem pc_add_zero (p : Word) : p + BitVec.ofNat 16 0 = p := by simp

theorem pc_add_succ (p : Word) (n : Nat) : p + 1 + BitVec.ofNat 16 n = p + BitVec.ofNat 16 (n + 1) := by
  have h1 : (1 : Word).toNat = 1 := rfl
  apply BitVec.eq_of_toNat_eq
  simp only [BitVec.toNat_add, BitVec.toNat_ofNat, h1]
  omega

/-- A fetch that completes only moves PC, and gives as many bytes as it was asked for. -/
theorem State.fetchBytes_pc {n : Nat} {s t : State} {bs : List Byte} (h : s.fetchBytes n = .ok bs t) :
    t = s.setPc (s.regs.pc + BitVec.ofNat 16 n) ∧ bs.length = n := by
  induction n generalizing s t bs with
  | zero =>
    simp only [State.fetchBytes, Fetched.ok.injEq] at h
    obtain ⟨rfl, rfl⟩ := h
    simp [State.setPc]
  | succ n ih =>
    simp only [State.fetchBytes] at h
    split at h
    · contradiction
    · split at h
      · rename_i hf
        simp only [Fetched.ok.injEq] at h
        obtain ⟨rfl, rfl⟩ := h
        obtain ⟨rfl, hl⟩ := ih hf
        refine ⟨?_, by simp [hl]⟩
        show s.setPc (s.regs.pc + 1 + BitVec.ofNat 16 n) = _
        rw [pc_add_succ]
      · contradiction

/-- The bytes the bus reads from PC on are the bytes fetched. -/
theorem State.fetchBytes_ok {s : State} {bs : List Byte}
    (h : ∀ k (hk : k < bs.length), s.memRead (s.regs.pc + BitVec.ofNat 16 k) = .ok bs[k]) :
    s.fetchBytes bs.length = .ok bs (s.setPc (s.regs.pc + BitVec.ofNat 16 bs.length)) := by
  induction bs generalizing s with
  | nil => simp [State.fetchBytes, State.setPc]
  | cons b t ih =>
    have h0 : s.memRead s.regs.pc = .ok b := by
      have h0 := h 0 (Nat.zero_lt_succ _)
      rw [pc_add_zero] at h0
      exact h0
    have ht : (s.setPc (s.regs.pc + 1)).fetchBytes t.length =
      .ok t ((s.setPc (s.regs.pc + 1)).setPc ((s.setPc (s.regs.pc + 1)).regs.pc + BitVec.ofNat 16 t.length)) := by
      apply ih
      intro k hk
      have := h (k + 1) (by simpa using hk)
      rw [← pc_add_succ] at this
      simpa using this
    show (match s.memRead s.regs.pc with
      | .error e => Fetched.err e s
      | .ok b =>
        match State.fetchBytes t.length (s.setPc (s.regs.pc + 1)) with
        | .ok t s1 => .ok (b :: t) s1
        | .err e s1 => .err e s1) = _
    rw [h0]
    simp only [ht]
    show Fetched.ok (b :: t) (s.setPc (s.regs.pc + 1 + BitVec.ofNat 16 t.length)) = _
    rw [pc_add_succ]
    rfl

/-- A whole instruction fetched: its bytes are those at PC, as many as its first byte's length says. -/
theorem State.fetchInstr_ok {s : State} {o : Byte} {t : List Byte} (hl : instrLength o = t.length + 1)
    (h : ∀ k (hk : k < (o :: t).length), s.memRead (s.regs.pc + BitVec.ofNat 16 k) = .ok (o :: t)[k]) :
    s.fetchInstr = .ok (o :: t) (s.setPc (s.regs.pc + BitVec.ofNat 16 (t.length + 1))) := by
  have h0 : s.memRead s.regs.pc = .ok o := by
    have h0 := h 0 (Nat.zero_lt_succ _)
    rw [pc_add_zero] at h0
    exact h0
  have ht : (s.setPc (s.regs.pc + 1)).fetchBytes t.length =
      .ok t ((s.setPc (s.regs.pc + 1)).setPc ((s.setPc (s.regs.pc + 1)).regs.pc + BitVec.ofNat 16 t.length)) := by
    apply State.fetchBytes_ok
    intro k hk
    have := h (k + 1) (by simpa using hk)
    rw [← pc_add_succ] at this
    simpa using this
  have hn : instrLength o - 1 = t.length := by omega
  simp only [State.fetchInstr, h0, hn]
  rw [ht]
  show Fetched.ok (o :: t) (s.setPc (s.regs.pc + 1 + BitVec.ofNat 16 t.length)) = _
  rw [pc_add_succ]

/-- Whether it completes or an error stops it, a fetch moves PC and nothing else. -/
theorem State.fetchBytes_plain (n : Nat) (s : State) :
    match s.fetchBytes n with
    | .ok _ t => Plain s t ∧ t = s.setPc t.regs.pc
    | .err _ t => Plain s t ∧ t = s.setPc t.regs.pc := by
  induction n generalizing s with
  | zero => exact ⟨.refl s, rfl⟩
  | succ n ih =>
    simp only [State.fetchBytes]
    cases s.memRead s.regs.pc with
    | error e => exact ⟨.refl s, rfl⟩
    | ok b =>
      have := ih (s.setPc (s.regs.pc + 1))
      simp only []
      cases hf : State.fetchBytes n (s.setPc (s.regs.pc + 1)) with
      | ok u t =>
        rw [hf] at this
        exact ⟨.trans (.setPc s _) this.1, this.2⟩
      | err e t =>
        rw [hf] at this
        exact ⟨.trans (.setPc s _) this.1, this.2⟩

theorem State.fetchInstr_plain (s : State) :
    match s.fetchInstr with
    | .ok _ t => Plain s t ∧ t = s.setPc t.regs.pc
    | .err _ t => Plain s t ∧ t = s.setPc t.regs.pc := by
  simp only [State.fetchInstr]
  cases s.memRead s.regs.pc with
  | error e => exact ⟨.refl s, rfl⟩
  | ok o =>
    have := State.fetchBytes_plain (instrLength o - 1) (s.setPc (s.regs.pc + 1))
    simp only []
    cases hf : State.fetchBytes (instrLength o - 1) (s.setPc (s.regs.pc + 1)) with
    | ok u t =>
      rw [hf] at this
      exact ⟨.trans (.setPc s _) this.1, this.2⟩
    | err e t =>
      rw [hf] at this
      exact ⟨.trans (.setPc s _) this.1, this.2⟩

end Sys2Proof.Machine
end

