-- ==== Sys2Proof/Laws/Exec.lean ====
section
/-! SUPPORT. Each meaning is `Plain`, but for DI, EI, RETI, HALT and STOP; what those five do. -/

namespace Sys2Proof.Machine

theorem loadReg_plain (r q : Reg8) (s : State) : PlainResult s (loadReg r q s) := done_plain (.setReg s _ _)
theorem loadImm_plain (r : Reg8) (n : Byte) (s : State) : PlainResult s (loadImm r n s) := done_plain (.setReg s _ _)
theorem loadAt_plain (r : Reg8) (a : Word) (s : State) : PlainResult s (loadAt r a s) :=
  State.withByteAt_plain fun _ => .setReg s _ _
theorem storeAt_plain (a : Word) (v : Byte) (s : State) : PlainResult s (storeAt a v s) := State.storeByte_plain fun t => .refl t
theorem loadStep_plain (w : Word) (s : State) : PlainResult s (loadStep w s) :=
  State.withByteAt_plain fun _ => (Plain.setReg s _ _).trans (.setHl _ _)
theorem storeStep_plain (w : Word) (s : State) : PlainResult s (storeStep w s) := State.storeByte_plain fun t => .setHl t _
theorem loadPairImm_plain (p : Pair) (nn : Word) (s : State) : PlainResult s (loadPairImm p nn s) := done_plain (.setPair s _ _)
theorem storeSp_plain (nn : Word) (s : State) : PlainResult s (storeSp nn s) := Run.result_plain (s.memWrite16_plain _ _)
theorem loadSpHl_plain (s : State) : PlainResult s (loadSpHl s) := done_plain (.setSp s _)
theorem push_plain (p : StackPair) (s : State) : PlainResult s (push p s) := Run.result_plain (s.push16_plain _)
theorem pop_plain (p : StackPair) (s : State) : PlainResult s (pop p s) :=
  Run.result_plain (State.pop16_plain fun _ t => .setStackPair t _ _)
theorem State.alu_plain (s : State) (op : AluOp) (v : Byte) : Plain s (s.alu op v) :=
  (Plain.setReg s _ _).trans (.setFlags _ _)
theorem aluOnReg_plain (op : AluOp) (r : Reg8) (s : State) : PlainResult s (aluOnReg op r s) := done_plain (s.alu_plain _ _)
theorem aluOnHL_plain (op : AluOp) (s : State) : PlainResult s (aluOnHL op s) := State.withByteAt_plain fun _ => s.alu_plain _ _
theorem aluOnImm_plain (op : AluOp) (n : Byte) (s : State) : PlainResult s (aluOnImm op n s) := done_plain (s.alu_plain _ _)
theorem increment_plain (r : Reg8) (s : State) : PlainResult s (increment r s) :=
  done_plain ((Plain.setReg s _ _).trans (.setFlags _ _))
theorem decrement_plain (r : Reg8) (s : State) : PlainResult s (decrement r s) :=
  done_plain ((Plain.setReg s _ _).trans (.setFlags _ _))
theorem incrementAtHL_plain (s : State) : PlainResult s (incrementAtHL s) := s.modifyAtHL_plain _
theorem decrementAtHL_plain (s : State) : PlainResult s (decrementAtHL s) := s.modifyAtHL_plain _
theorem decimalAdjust_plain (s : State) : PlainResult s (decimalAdjust s) :=
  done_plain ((Plain.setReg s _ _).trans (.setFlags _ _))
theorem complement_plain (s : State) : PlainResult s (complement s) :=
  done_plain ((Plain.setReg s _ _).trans (.setFlags _ _))
theorem setCarry_plain (s : State) : PlainResult s (setCarry s) := done_plain (.setFlags s _)
theorem flipCarry_plain (s : State) : PlainResult s (flipCarry s) := done_plain (.setFlags s _)
theorem addToHl_plain (p : Pair) (s : State) : PlainResult s (addToHl p s) :=
  done_plain ((Plain.setHl s _).trans (.setFlags _ _))
theorem incrementPair_plain (p : Pair) (s : State) : PlainResult s (incrementPair p s) := done_plain (.setPair s _ _)
theorem decrementPair_plain (p : Pair) (s : State) : PlainResult s (decrementPair p s) := done_plain (.setPair s _ _)
theorem addToSp_plain (e : Byte) (s : State) : PlainResult s (addToSp e s) :=
  done_plain ((Plain.setSp s _).trans (.setFlags _ _))
theorem loadHlSp_plain (e : Byte) (s : State) : PlainResult s (loadHlSp e s) :=
  done_plain ((Plain.setHl s _).trans (.setFlags _ _))
theorem rotateA_plain (op : RotOp) (s : State) : PlainResult s (rotateA op s) :=
  done_plain ((Plain.setReg s _ _).trans (.setFlags _ _))
theorem rotateReg_plain (op : RotOp) (r : Reg8) (s : State) : PlainResult s (rotateReg op r s) :=
  done_plain ((Plain.setReg s _ _).trans (.setFlags _ _))
theorem rotateAtHL_plain (op : RotOp) (s : State) : PlainResult s (rotateAtHL op s) := s.modifyAtHL_plain _
theorem testReg_plain (b : Nat) (r : Reg8) (s : State) : PlainResult s (testReg b r s) := done_plain (.setFlags s _)
theorem testAtHL_plain (b : Nat) (s : State) : PlainResult s (testAtHL b s) := State.withByteAt_plain fun _ => .setFlags s _
theorem clearReg_plain (b : Nat) (r : Reg8) (s : State) : PlainResult s (clearReg b r s) := done_plain (.setReg s _ _)
theorem clearAtHL_plain (b : Nat) (s : State) : PlainResult s (clearAtHL b s) := s.replaceAtHL_plain _
theorem insertReg_plain (b : Nat) (r : Reg8) (s : State) : PlainResult s (insertReg b r s) := done_plain (.setReg s _ _)
theorem insertAtHL_plain (b : Nat) (s : State) : PlainResult s (insertAtHL b s) := s.replaceAtHL_plain _
theorem jump_plain (a : Word) (s : State) : PlainResult s (jump a s) := done_plain (.setPc s _)
theorem jumpIf_plain (cc : Cond) (a : Word) (s : State) : PlainResult s (jumpIf cc a s) := by
  apply done_plain
  split
  · exact .setPc s _
  · exact .refl s
theorem jumpRel_plain (e : Byte) (s : State) : PlainResult s (jumpRel e s) := done_plain (.setPc s _)
theorem jumpRelIf_plain (cc : Cond) (e : Byte) (s : State) : PlainResult s (jumpRelIf cc e s) := by
  apply done_plain
  split
  · exact .setPc s _
  · exact .refl s
theorem State.callTo_plain (s : State) (a : Word) : (s.callTo a).Plain s :=
  Run.andThen_plain (s.push16_plain _) fun t => Plain.setPc t _
theorem call_plain (a : Word) (s : State) : PlainResult s (call a s) := Run.result_plain (s.callTo_plain a)
theorem callIf_plain (cc : Cond) (a : Word) (s : State) : PlainResult s (callIf cc a s) := by
  unfold callIf
  split
  · exact call_plain a s
  · exact done_plain (.refl s)
theorem returnPc_plain (s : State) : PlainResult s (returnPc s) := Run.result_plain (State.pop16_plain fun _ t => Plain.setPc t _)
theorem returnIf_plain (cc : Cond) (s : State) : PlainResult s (returnIf cc s) := by
  unfold returnIf
  split
  · exact returnPc_plain s
  · exact done_plain (.refl s)
theorem restart_plain (t : Nat) (s : State) : PlainResult s (restart t s) := call_plain _ s
theorem raiseInvalid_plain (op : Byte) (s : State) : PlainResult s (raiseInvalid op s) := ⟨s, .refl s, .inr ⟨_, rfl⟩⟩

/-- The five instructions that write a control bit: IME, EI_PENDING, HALTED, DOUBLE_SPEED or SPEED_PREP. -/
def Control : Instr → Bool
  | .di => true
  | .ei => true
  | .reti => true
  | .halt => true
  | .stop _ => true
  | _ => false

/-- Every other instruction completes, or raises an error, in a state that is `Plain` from its own. -/
theorem exec_plain (i : Instr) (s : State) (h : Control i = false) : PlainResult s (exec i s) := by
  cases i with
  | nop => exact done_plain (.refl s)
  | ldBCImm16 nn => exact loadPairImm_plain .bc nn s
  | ldAtBCA => exact storeAt_plain s.bc (s.reg .a) s
  | incBC => exact incrementPair_plain .bc s
  | incB => exact increment_plain .b s
  | decB => exact decrement_plain .b s
  | ldBImm8 n => exact loadImm_plain .b n s
  | rlca => exact rotateA_plain .rlc s
  | ldAtA16SP nn => exact storeSp_plain nn s
  | addHLBC => exact addToHl_plain .bc s
  | ldAAtBC => exact loadAt_plain .a s.bc s
  | decBC => exact decrementPair_plain .bc s
  | incC => exact increment_plain .c s
  | decC => exact decrement_plain .c s
  | ldCImm8 n => exact loadImm_plain .c n s
  | rrca => exact rotateA_plain .rrc s
  | stop _ => cases h
  | ldDEImm16 nn => exact loadPairImm_plain .de nn s
  | ldAtDEA => exact storeAt_plain s.de (s.reg .a) s
  | incDE => exact incrementPair_plain .de s
  | incD => exact increment_plain .d s
  | decD => exact decrement_plain .d s
  | ldDImm8 n => exact loadImm_plain .d n s
  | rla => exact rotateA_plain .rl s
  | jrE8 e => exact jumpRel_plain e s
  | addHLDE => exact addToHl_plain .de s
  | ldAAtDE => exact loadAt_plain .a s.de s
  | decDE => exact decrementPair_plain .de s
  | incE => exact increment_plain .e s
  | decE => exact decrement_plain .e s
  | ldEImm8 n => exact loadImm_plain .e n s
  | rra => exact rotateA_plain .rr s
  | jrNZE8 e => exact jumpRelIf_plain .nz e s
  | ldHLImm16 nn => exact loadPairImm_plain .hl nn s
  | ldAtHLIncA => exact storeStep_plain 1 s
  | incHL => exact incrementPair_plain .hl s
  | incH => exact increment_plain .h s
  | decH => exact decrement_plain .h s
  | ldHImm8 n => exact loadImm_plain .h n s
  | daa => exact decimalAdjust_plain s
  | jrZE8 e => exact jumpRelIf_plain .z e s
  | addHLHL => exact addToHl_plain .hl s
  | ldAAtHLInc => exact loadStep_plain 1 s
  | decHL => exact decrementPair_plain .hl s
  | incL => exact increment_plain .l s
  | decL => exact decrement_plain .l s
  | ldLImm8 n => exact loadImm_plain .l n s
  | cpl => exact complement_plain s
  | jrNCE8 e => exact jumpRelIf_plain .nc e s
  | ldSPImm16 nn => exact loadPairImm_plain .sp nn s
  | ldAtHLDecA => exact storeStep_plain (-1) s
  | incSP => exact incrementPair_plain .sp s
  | incAtHL => exact incrementAtHL_plain s
  | decAtHL => exact decrementAtHL_plain s
  | ldAtHLImm8 n => exact storeAt_plain s.hl n s
  | scf => exact setCarry_plain s
  | jrCE8 e => exact jumpRelIf_plain .c e s
  | addHLSP => exact addToHl_plain .sp s
  | ldAAtHLDec => exact loadStep_plain (-1) s
  | decSP => exact decrementPair_plain .sp s
  | incA => exact increment_plain .a s
  | decA => exact decrement_plain .a s
  | ldAImm8 n => exact loadImm_plain .a n s
  | ccf => exact flipCarry_plain s
  | ldBB => exact loadReg_plain .b .b s
  | ldBC => exact loadReg_plain .b .c s
  | ldBD => exact loadReg_plain .b .d s
  | ldBE => exact loadReg_plain .b .e s
  | ldBH => exact loadReg_plain .b .h s
  | ldBL => exact loadReg_plain .b .l s
  | ldBAtHL => exact loadAt_plain .b s.hl s
  | ldBA => exact loadReg_plain .b .a s
  | ldCB => exact loadReg_plain .c .b s
  | ldCC => exact loadReg_plain .c .c s
  | ldCD => exact loadReg_plain .c .d s
  | ldCE => exact loadReg_plain .c .e s
  | ldCH => exact loadReg_plain .c .h s
  | ldCL => exact loadReg_plain .c .l s
  | ldCAtHL => exact loadAt_plain .c s.hl s
  | ldCA => exact loadReg_plain .c .a s
  | ldDB => exact loadReg_plain .d .b s
  | ldDC => exact loadReg_plain .d .c s
  | ldDD => exact loadReg_plain .d .d s
  | ldDE => exact loadReg_plain .d .e s
  | ldDH => exact loadReg_plain .d .h s
  | ldDL => exact loadReg_plain .d .l s
  | ldDAtHL => exact loadAt_plain .d s.hl s
  | ldDA => exact loadReg_plain .d .a s
  | ldEB => exact loadReg_plain .e .b s
  | ldEC => exact loadReg_plain .e .c s
  | ldED => exact loadReg_plain .e .d s
  | ldEE => exact loadReg_plain .e .e s
  | ldEH => exact loadReg_plain .e .h s
  | ldEL => exact loadReg_plain .e .l s
  | ldEAtHL => exact loadAt_plain .e s.hl s
  | ldEA => exact loadReg_plain .e .a s
  | ldHB => exact loadReg_plain .h .b s
  | ldHC => exact loadReg_plain .h .c s
  | ldHD => exact loadReg_plain .h .d s
  | ldHE => exact loadReg_plain .h .e s
  | ldHH => exact loadReg_plain .h .h s
  | ldHL => exact loadReg_plain .h .l s
  | ldHAtHL => exact loadAt_plain .h s.hl s
  | ldHA => exact loadReg_plain .h .a s
  | ldLB => exact loadReg_plain .l .b s
  | ldLC => exact loadReg_plain .l .c s
  | ldLD => exact loadReg_plain .l .d s
  | ldLE => exact loadReg_plain .l .e s
  | ldLH => exact loadReg_plain .l .h s
  | ldLL => exact loadReg_plain .l .l s
  | ldLAtHL => exact loadAt_plain .l s.hl s
  | ldLA => exact loadReg_plain .l .a s
  | ldAtHLB => exact storeAt_plain s.hl (s.reg .b) s
  | ldAtHLC => exact storeAt_plain s.hl (s.reg .c) s
  | ldAtHLD => exact storeAt_plain s.hl (s.reg .d) s
  | ldAtHLE => exact storeAt_plain s.hl (s.reg .e) s
  | ldAtHLH => exact storeAt_plain s.hl (s.reg .h) s
  | ldAtHLL => exact storeAt_plain s.hl (s.reg .l) s
  | halt => cases h
  | ldAtHLA => exact storeAt_plain s.hl (s.reg .a) s
  | ldAB => exact loadReg_plain .a .b s
  | ldAC => exact loadReg_plain .a .c s
  | ldAD => exact loadReg_plain .a .d s
  | ldAE => exact loadReg_plain .a .e s
  | ldAH => exact loadReg_plain .a .h s
  | ldAL => exact loadReg_plain .a .l s
  | ldAAtHL => exact loadAt_plain .a s.hl s
  | ldAA => exact loadReg_plain .a .a s
  | addAB => exact aluOnReg_plain .add .b s
  | addAC => exact aluOnReg_plain .add .c s
  | addAD => exact aluOnReg_plain .add .d s
  | addAE => exact aluOnReg_plain .add .e s
  | addAH => exact aluOnReg_plain .add .h s
  | addAL => exact aluOnReg_plain .add .l s
  | addAAtHL => exact aluOnHL_plain .add s
  | addAA => exact aluOnReg_plain .add .a s
  | adcAB => exact aluOnReg_plain .adc .b s
  | adcAC => exact aluOnReg_plain .adc .c s
  | adcAD => exact aluOnReg_plain .adc .d s
  | adcAE => exact aluOnReg_plain .adc .e s
  | adcAH => exact aluOnReg_plain .adc .h s
  | adcAL => exact aluOnReg_plain .adc .l s
  | adcAAtHL => exact aluOnHL_plain .adc s
  | adcAA => exact aluOnReg_plain .adc .a s
  | subAB => exact aluOnReg_plain .sub .b s
  | subAC => exact aluOnReg_plain .sub .c s
  | subAD => exact aluOnReg_plain .sub .d s
  | subAE => exact aluOnReg_plain .sub .e s
  | subAH => exact aluOnReg_plain .sub .h s
  | subAL => exact aluOnReg_plain .sub .l s
  | subAAtHL => exact aluOnHL_plain .sub s
  | subAA => exact aluOnReg_plain .sub .a s
  | sbcAB => exact aluOnReg_plain .sbc .b s
  | sbcAC => exact aluOnReg_plain .sbc .c s
  | sbcAD => exact aluOnReg_plain .sbc .d s
  | sbcAE => exact aluOnReg_plain .sbc .e s
  | sbcAH => exact aluOnReg_plain .sbc .h s
  | sbcAL => exact aluOnReg_plain .sbc .l s
  | sbcAAtHL => exact aluOnHL_plain .sbc s
  | sbcAA => exact aluOnReg_plain .sbc .a s
  | andAB => exact aluOnReg_plain .and .b s
  | andAC => exact aluOnReg_plain .and .c s
  | andAD => exact aluOnReg_plain .and .d s
  | andAE => exact aluOnReg_plain .and .e s
  | andAH => exact aluOnReg_plain .and .h s
  | andAL => exact aluOnReg_plain .and .l s
  | andAAtHL => exact aluOnHL_plain .and s
  | andAA => exact aluOnReg_plain .and .a s
  | xorAB => exact aluOnReg_plain .xor .b s
  | xorAC => exact aluOnReg_plain .xor .c s
  | xorAD => exact aluOnReg_plain .xor .d s
  | xorAE => exact aluOnReg_plain .xor .e s
  | xorAH => exact aluOnReg_plain .xor .h s
  | xorAL => exact aluOnReg_plain .xor .l s
  | xorAAtHL => exact aluOnHL_plain .xor s
  | xorAA => exact aluOnReg_plain .xor .a s
  | orAB => exact aluOnReg_plain .or .b s
  | orAC => exact aluOnReg_plain .or .c s
  | orAD => exact aluOnReg_plain .or .d s
  | orAE => exact aluOnReg_plain .or .e s
  | orAH => exact aluOnReg_plain .or .h s
  | orAL => exact aluOnReg_plain .or .l s
  | orAAtHL => exact aluOnHL_plain .or s
  | orAA => exact aluOnReg_plain .or .a s
  | cpAB => exact aluOnReg_plain .cp .b s
  | cpAC => exact aluOnReg_plain .cp .c s
  | cpAD => exact aluOnReg_plain .cp .d s
  | cpAE => exact aluOnReg_plain .cp .e s
  | cpAH => exact aluOnReg_plain .cp .h s
  | cpAL => exact aluOnReg_plain .cp .l s
  | cpAAtHL => exact aluOnHL_plain .cp s
  | cpAA => exact aluOnReg_plain .cp .a s
  | retNZ => exact returnIf_plain .nz s
  | popBC => exact pop_plain .bc s
  | jpNZA16 nn => exact jumpIf_plain .nz nn s
  | jpA16 nn => exact jump_plain nn s
  | callNZA16 nn => exact callIf_plain .nz nn s
  | pushBC => exact push_plain .bc s
  | addAImm8 n => exact aluOnImm_plain .add n s
  | rst00 => exact restart_plain 0 s
  | retZ => exact returnIf_plain .z s
  | ret => exact returnPc_plain s
  | jpZA16 nn => exact jumpIf_plain .z nn s
  | callZA16 nn => exact callIf_plain .z nn s
  | callA16 nn => exact call_plain nn s
  | adcAImm8 n => exact aluOnImm_plain .adc n s
  | rst08 => exact restart_plain 1 s
  | retNC => exact returnIf_plain .nc s
  | popDE => exact pop_plain .de s
  | jpNCA16 nn => exact jumpIf_plain .nc nn s
  | invalid op => exact raiseInvalid_plain op s
  | callNCA16 nn => exact callIf_plain .nc nn s
  | pushDE => exact push_plain .de s
  | subAImm8 n => exact aluOnImm_plain .sub n s
  | rst10 => exact restart_plain 2 s
  | retC => exact returnIf_plain .c s
  | reti => cases h
  | jpCA16 nn => exact jumpIf_plain .c nn s
  | callCA16 nn => exact callIf_plain .c nn s
  | sbcAImm8 n => exact aluOnImm_plain .sbc n s
  | rst18 => exact restart_plain 3 s
  | ldhAtA8A n => exact storeAt_plain (highPage n) (s.reg .a) s
  | popHL => exact pop_plain .hl s
  | ldAtCA => exact storeAt_plain (highPage (s.reg .c)) (s.reg .a) s
  | pushHL => exact push_plain .hl s
  | andAImm8 n => exact aluOnImm_plain .and n s
  | rst20 => exact restart_plain 4 s
  | addSPE8 e => exact addToSp_plain e s
  | jpHL => exact jump_plain s.hl s
  | ldAtA16A nn => exact storeAt_plain nn (s.reg .a) s
  | xorAImm8 n => exact aluOnImm_plain .xor n s
  | rst28 => exact restart_plain 5 s
  | ldhAAtA8 n => exact loadAt_plain .a (highPage n) s
  | popAF => exact pop_plain .af s
  | ldAAtC => exact loadAt_plain .a (highPage (s.reg .c)) s
  | di => cases h
  | pushAF => exact push_plain .af s
  | orAImm8 n => exact aluOnImm_plain .or n s
  | rst30 => exact restart_plain 6 s
  | ldHLSPE8 e => exact loadHlSp_plain e s
  | ldSPHL => exact loadSpHl_plain s
  | ldAAtA16 nn => exact loadAt_plain .a nn s
  | ei => cases h
  | cpAImm8 n => exact aluOnImm_plain .cp n s
  | rst38 => exact restart_plain 7 s
  | rlcB => exact rotateReg_plain .rlc .b s
  | rlcC => exact rotateReg_plain .rlc .c s
  | rlcD => exact rotateReg_plain .rlc .d s
  | rlcE => exact rotateReg_plain .rlc .e s
  | rlcH => exact rotateReg_plain .rlc .h s
  | rlcL => exact rotateReg_plain .rlc .l s
  | rlcAtHL => exact rotateAtHL_plain .rlc s
  | rlcA => exact rotateReg_plain .rlc .a s
  | rrcB => exact rotateReg_plain .rrc .b s
  | rrcC => exact rotateReg_plain .rrc .c s
  | rrcD => exact rotateReg_plain .rrc .d s
  | rrcE => exact rotateReg_plain .rrc .e s
  | rrcH => exact rotateReg_plain .rrc .h s
  | rrcL => exact rotateReg_plain .rrc .l s
  | rrcAtHL => exact rotateAtHL_plain .rrc s
  | rrcA => exact rotateReg_plain .rrc .a s
  | rlB => exact rotateReg_plain .rl .b s
  | rlC => exact rotateReg_plain .rl .c s
  | rlD => exact rotateReg_plain .rl .d s
  | rlE => exact rotateReg_plain .rl .e s
  | rlH => exact rotateReg_plain .rl .h s
  | rlL => exact rotateReg_plain .rl .l s
  | rlAtHL => exact rotateAtHL_plain .rl s
  | rlA => exact rotateReg_plain .rl .a s
  | rrB => exact rotateReg_plain .rr .b s
  | rrC => exact rotateReg_plain .rr .c s
  | rrD => exact rotateReg_plain .rr .d s
  | rrE => exact rotateReg_plain .rr .e s
  | rrH => exact rotateReg_plain .rr .h s
  | rrL => exact rotateReg_plain .rr .l s
  | rrAtHL => exact rotateAtHL_plain .rr s
  | rrA => exact rotateReg_plain .rr .a s
  | slaB => exact rotateReg_plain .sla .b s
  | slaC => exact rotateReg_plain .sla .c s
  | slaD => exact rotateReg_plain .sla .d s
  | slaE => exact rotateReg_plain .sla .e s
  | slaH => exact rotateReg_plain .sla .h s
  | slaL => exact rotateReg_plain .sla .l s
  | slaAtHL => exact rotateAtHL_plain .sla s
  | slaA => exact rotateReg_plain .sla .a s
  | sraB => exact rotateReg_plain .sra .b s
  | sraC => exact rotateReg_plain .sra .c s
  | sraD => exact rotateReg_plain .sra .d s
  | sraE => exact rotateReg_plain .sra .e s
  | sraH => exact rotateReg_plain .sra .h s
  | sraL => exact rotateReg_plain .sra .l s
  | sraAtHL => exact rotateAtHL_plain .sra s
  | sraA => exact rotateReg_plain .sra .a s
  | swapB => exact rotateReg_plain .swap .b s
  | swapC => exact rotateReg_plain .swap .c s
  | swapD => exact rotateReg_plain .swap .d s
  | swapE => exact rotateReg_plain .swap .e s
  | swapH => exact rotateReg_plain .swap .h s
  | swapL => exact rotateReg_plain .swap .l s
  | swapAtHL => exact rotateAtHL_plain .swap s
  | swapA => exact rotateReg_plain .swap .a s
  | srlB => exact rotateReg_plain .srl .b s
  | srlC => exact rotateReg_plain .srl .c s
  | srlD => exact rotateReg_plain .srl .d s
  | srlE => exact rotateReg_plain .srl .e s
  | srlH => exact rotateReg_plain .srl .h s
  | srlL => exact rotateReg_plain .srl .l s
  | srlAtHL => exact rotateAtHL_plain .srl s
  | srlA => exact rotateReg_plain .srl .a s
  | bit0B => exact testReg_plain 0 .b s
  | bit0C => exact testReg_plain 0 .c s
  | bit0D => exact testReg_plain 0 .d s
  | bit0E => exact testReg_plain 0 .e s
  | bit0H => exact testReg_plain 0 .h s
  | bit0L => exact testReg_plain 0 .l s
  | bit0AtHL => exact testAtHL_plain 0 s
  | bit0A => exact testReg_plain 0 .a s
  | bit1B => exact testReg_plain 1 .b s
  | bit1C => exact testReg_plain 1 .c s
  | bit1D => exact testReg_plain 1 .d s
  | bit1E => exact testReg_plain 1 .e s
  | bit1H => exact testReg_plain 1 .h s
  | bit1L => exact testReg_plain 1 .l s
  | bit1AtHL => exact testAtHL_plain 1 s
  | bit1A => exact testReg_plain 1 .a s
  | bit2B => exact testReg_plain 2 .b s
  | bit2C => exact testReg_plain 2 .c s
  | bit2D => exact testReg_plain 2 .d s
  | bit2E => exact testReg_plain 2 .e s
  | bit2H => exact testReg_plain 2 .h s
  | bit2L => exact testReg_plain 2 .l s
  | bit2AtHL => exact testAtHL_plain 2 s
  | bit2A => exact testReg_plain 2 .a s
  | bit3B => exact testReg_plain 3 .b s
  | bit3C => exact testReg_plain 3 .c s
  | bit3D => exact testReg_plain 3 .d s
  | bit3E => exact testReg_plain 3 .e s
  | bit3H => exact testReg_plain 3 .h s
  | bit3L => exact testReg_plain 3 .l s
  | bit3AtHL => exact testAtHL_plain 3 s
  | bit3A => exact testReg_plain 3 .a s
  | bit4B => exact testReg_plain 4 .b s
  | bit4C => exact testReg_plain 4 .c s
  | bit4D => exact testReg_plain 4 .d s
  | bit4E => exact testReg_plain 4 .e s
  | bit4H => exact testReg_plain 4 .h s
  | bit4L => exact testReg_plain 4 .l s
  | bit4AtHL => exact testAtHL_plain 4 s
  | bit4A => exact testReg_plain 4 .a s
  | bit5B => exact testReg_plain 5 .b s
  | bit5C => exact testReg_plain 5 .c s
  | bit5D => exact testReg_plain 5 .d s
  | bit5E => exact testReg_plain 5 .e s
  | bit5H => exact testReg_plain 5 .h s
  | bit5L => exact testReg_plain 5 .l s
  | bit5AtHL => exact testAtHL_plain 5 s
  | bit5A => exact testReg_plain 5 .a s
  | bit6B => exact testReg_plain 6 .b s
  | bit6C => exact testReg_plain 6 .c s
  | bit6D => exact testReg_plain 6 .d s
  | bit6E => exact testReg_plain 6 .e s
  | bit6H => exact testReg_plain 6 .h s
  | bit6L => exact testReg_plain 6 .l s
  | bit6AtHL => exact testAtHL_plain 6 s
  | bit6A => exact testReg_plain 6 .a s
  | bit7B => exact testReg_plain 7 .b s
  | bit7C => exact testReg_plain 7 .c s
  | bit7D => exact testReg_plain 7 .d s
  | bit7E => exact testReg_plain 7 .e s
  | bit7H => exact testReg_plain 7 .h s
  | bit7L => exact testReg_plain 7 .l s
  | bit7AtHL => exact testAtHL_plain 7 s
  | bit7A => exact testReg_plain 7 .a s
  | res0B => exact clearReg_plain 0 .b s
  | res0C => exact clearReg_plain 0 .c s
  | res0D => exact clearReg_plain 0 .d s
  | res0E => exact clearReg_plain 0 .e s
  | res0H => exact clearReg_plain 0 .h s
  | res0L => exact clearReg_plain 0 .l s
  | res0AtHL => exact clearAtHL_plain 0 s
  | res0A => exact clearReg_plain 0 .a s
  | res1B => exact clearReg_plain 1 .b s
  | res1C => exact clearReg_plain 1 .c s
  | res1D => exact clearReg_plain 1 .d s
  | res1E => exact clearReg_plain 1 .e s
  | res1H => exact clearReg_plain 1 .h s
  | res1L => exact clearReg_plain 1 .l s
  | res1AtHL => exact clearAtHL_plain 1 s
  | res1A => exact clearReg_plain 1 .a s
  | res2B => exact clearReg_plain 2 .b s
  | res2C => exact clearReg_plain 2 .c s
  | res2D => exact clearReg_plain 2 .d s
  | res2E => exact clearReg_plain 2 .e s
  | res2H => exact clearReg_plain 2 .h s
  | res2L => exact clearReg_plain 2 .l s
  | res2AtHL => exact clearAtHL_plain 2 s
  | res2A => exact clearReg_plain 2 .a s
  | res3B => exact clearReg_plain 3 .b s
  | res3C => exact clearReg_plain 3 .c s
  | res3D => exact clearReg_plain 3 .d s
  | res3E => exact clearReg_plain 3 .e s
  | res3H => exact clearReg_plain 3 .h s
  | res3L => exact clearReg_plain 3 .l s
  | res3AtHL => exact clearAtHL_plain 3 s
  | res3A => exact clearReg_plain 3 .a s
  | res4B => exact clearReg_plain 4 .b s
  | res4C => exact clearReg_plain 4 .c s
  | res4D => exact clearReg_plain 4 .d s
  | res4E => exact clearReg_plain 4 .e s
  | res4H => exact clearReg_plain 4 .h s
  | res4L => exact clearReg_plain 4 .l s
  | res4AtHL => exact clearAtHL_plain 4 s
  | res4A => exact clearReg_plain 4 .a s
  | res5B => exact clearReg_plain 5 .b s
  | res5C => exact clearReg_plain 5 .c s
  | res5D => exact clearReg_plain 5 .d s
  | res5E => exact clearReg_plain 5 .e s
  | res5H => exact clearReg_plain 5 .h s
  | res5L => exact clearReg_plain 5 .l s
  | res5AtHL => exact clearAtHL_plain 5 s
  | res5A => exact clearReg_plain 5 .a s
  | res6B => exact clearReg_plain 6 .b s
  | res6C => exact clearReg_plain 6 .c s
  | res6D => exact clearReg_plain 6 .d s
  | res6E => exact clearReg_plain 6 .e s
  | res6H => exact clearReg_plain 6 .h s
  | res6L => exact clearReg_plain 6 .l s
  | res6AtHL => exact clearAtHL_plain 6 s
  | res6A => exact clearReg_plain 6 .a s
  | res7B => exact clearReg_plain 7 .b s
  | res7C => exact clearReg_plain 7 .c s
  | res7D => exact clearReg_plain 7 .d s
  | res7E => exact clearReg_plain 7 .e s
  | res7H => exact clearReg_plain 7 .h s
  | res7L => exact clearReg_plain 7 .l s
  | res7AtHL => exact clearAtHL_plain 7 s
  | res7A => exact clearReg_plain 7 .a s
  | set0B => exact insertReg_plain 0 .b s
  | set0C => exact insertReg_plain 0 .c s
  | set0D => exact insertReg_plain 0 .d s
  | set0E => exact insertReg_plain 0 .e s
  | set0H => exact insertReg_plain 0 .h s
  | set0L => exact insertReg_plain 0 .l s
  | set0AtHL => exact insertAtHL_plain 0 s
  | set0A => exact insertReg_plain 0 .a s
  | set1B => exact insertReg_plain 1 .b s
  | set1C => exact insertReg_plain 1 .c s
  | set1D => exact insertReg_plain 1 .d s
  | set1E => exact insertReg_plain 1 .e s
  | set1H => exact insertReg_plain 1 .h s
  | set1L => exact insertReg_plain 1 .l s
  | set1AtHL => exact insertAtHL_plain 1 s
  | set1A => exact insertReg_plain 1 .a s
  | set2B => exact insertReg_plain 2 .b s
  | set2C => exact insertReg_plain 2 .c s
  | set2D => exact insertReg_plain 2 .d s
  | set2E => exact insertReg_plain 2 .e s
  | set2H => exact insertReg_plain 2 .h s
  | set2L => exact insertReg_plain 2 .l s
  | set2AtHL => exact insertAtHL_plain 2 s
  | set2A => exact insertReg_plain 2 .a s
  | set3B => exact insertReg_plain 3 .b s
  | set3C => exact insertReg_plain 3 .c s
  | set3D => exact insertReg_plain 3 .d s
  | set3E => exact insertReg_plain 3 .e s
  | set3H => exact insertReg_plain 3 .h s
  | set3L => exact insertReg_plain 3 .l s
  | set3AtHL => exact insertAtHL_plain 3 s
  | set3A => exact insertReg_plain 3 .a s
  | set4B => exact insertReg_plain 4 .b s
  | set4C => exact insertReg_plain 4 .c s
  | set4D => exact insertReg_plain 4 .d s
  | set4E => exact insertReg_plain 4 .e s
  | set4H => exact insertReg_plain 4 .h s
  | set4L => exact insertReg_plain 4 .l s
  | set4AtHL => exact insertAtHL_plain 4 s
  | set4A => exact insertReg_plain 4 .a s
  | set5B => exact insertReg_plain 5 .b s
  | set5C => exact insertReg_plain 5 .c s
  | set5D => exact insertReg_plain 5 .d s
  | set5E => exact insertReg_plain 5 .e s
  | set5H => exact insertReg_plain 5 .h s
  | set5L => exact insertReg_plain 5 .l s
  | set5AtHL => exact insertAtHL_plain 5 s
  | set5A => exact insertReg_plain 5 .a s
  | set6B => exact insertReg_plain 6 .b s
  | set6C => exact insertReg_plain 6 .c s
  | set6D => exact insertReg_plain 6 .d s
  | set6E => exact insertReg_plain 6 .e s
  | set6H => exact insertReg_plain 6 .h s
  | set6L => exact insertReg_plain 6 .l s
  | set6AtHL => exact insertAtHL_plain 6 s
  | set6A => exact insertReg_plain 6 .a s
  | set7B => exact insertReg_plain 7 .b s
  | set7C => exact insertReg_plain 7 .c s
  | set7D => exact insertReg_plain 7 .d s
  | set7E => exact insertReg_plain 7 .e s
  | set7H => exact insertReg_plain 7 .h s
  | set7L => exact insertReg_plain 7 .l s
  | set7AtHL => exact insertAtHL_plain 7 s
  | set7A => exact insertReg_plain 7 .a s

/-- RETI: its two reads and PC, then IME set and EI_PENDING cleared; an error before that leaves both. -/
theorem returnEnable_eq (s : State) :
    (∃ t e, Plain s t ∧ returnEnable s = .next (t.raise e)) ∨
    ∃ t, Plain s t ∧ returnEnable s = .next { t with ime := true, eiPending := false } := by
  simp only [returnEnable, State.returnInterrupt, State.pop16, State.readThen]
  split
  · split
    · exact .inr ⟨_, Plain.trans (.setSp s _) (Plain.trans (.setSp _ _) (.setPc _ _)), rfl⟩
    · exact .inl ⟨_, _, Plain.setSp s _, rfl⟩
  · exact .inl ⟨s, _, .refl s, rfl⟩

/-- No instruction ends in a fault or a refusal. -/
theorem exec_next (i : Instr) (s : State) : ∃ t, exec i s = .next t := by
  cases hc : Control i with
  | false =>
    obtain ⟨t, _, h | ⟨e, h⟩⟩ := exec_plain i s hc
    · exact ⟨t, h⟩
    · exact ⟨_, h⟩
  | true =>
    unfold Control at hc
    split at hc
    · exact ⟨_, rfl⟩
    · exact ⟨_, rfl⟩
    · obtain ⟨t, e, _, h⟩ | ⟨t, _, h⟩ := returnEnable_eq s
      · exact ⟨_, h⟩
      · exact ⟨_, h⟩
    · exact ⟨_, rfl⟩
    · show ∃ t, speedSwitch s = .next t
      unfold speedSwitch
      split
      · exact ⟨_, rfl⟩
      · exact ⟨_, rfl⟩
    · cases hc

end Sys2Proof.Machine
end

