-- ==== Sys2Proof/Laws/PerInstr.lean ====
section
/-! SUPPORT. Per instruction: an encoding has the length its first byte gives (30_encoding R302). -/

/-- The encoding of a well-formed instruction is one opcode byte and as many more as that byte's length says (R300, R302). -/
def Sys2Proof.Laws.Encoding.Statement (i : Sys2Proof.Instr) : Prop :=
  i.wellFormed = true → ∃ o t, Sys2Proof.encode i = o :: t ∧ Sys2Proof.instrLength o = t.length + 1

namespace Sys2Proof.Laws.Encoding

theorem nop : Statement .nop := fun _ => ⟨_, _, rfl, rfl⟩
theorem ldBCImm16 (nn : Word) : Statement (.ldBCImm16 nn) := fun _ => ⟨_, _, rfl, rfl⟩
theorem ldAtBCA : Statement .ldAtBCA := fun _ => ⟨_, _, rfl, rfl⟩
theorem incBC : Statement .incBC := fun _ => ⟨_, _, rfl, rfl⟩
theorem incB : Statement .incB := fun _ => ⟨_, _, rfl, rfl⟩
theorem decB : Statement .decB := fun _ => ⟨_, _, rfl, rfl⟩
theorem ldBImm8 (n : Byte) : Statement (.ldBImm8 n) := fun _ => ⟨_, _, rfl, rfl⟩
theorem rlca : Statement .rlca := fun _ => ⟨_, _, rfl, rfl⟩
theorem ldAtA16SP (nn : Word) : Statement (.ldAtA16SP nn) := fun _ => ⟨_, _, rfl, rfl⟩
theorem addHLBC : Statement .addHLBC := fun _ => ⟨_, _, rfl, rfl⟩
theorem ldAAtBC : Statement .ldAAtBC := fun _ => ⟨_, _, rfl, rfl⟩
theorem decBC : Statement .decBC := fun _ => ⟨_, _, rfl, rfl⟩
theorem incC : Statement .incC := fun _ => ⟨_, _, rfl, rfl⟩
theorem decC : Statement .decC := fun _ => ⟨_, _, rfl, rfl⟩
theorem ldCImm8 (n : Byte) : Statement (.ldCImm8 n) := fun _ => ⟨_, _, rfl, rfl⟩
theorem rrca : Statement .rrca := fun _ => ⟨_, _, rfl, rfl⟩
theorem stop (u : Byte) : Statement (.stop u) := fun _ => ⟨_, _, rfl, rfl⟩
theorem ldDEImm16 (nn : Word) : Statement (.ldDEImm16 nn) := fun _ => ⟨_, _, rfl, rfl⟩
theorem ldAtDEA : Statement .ldAtDEA := fun _ => ⟨_, _, rfl, rfl⟩
theorem incDE : Statement .incDE := fun _ => ⟨_, _, rfl, rfl⟩
theorem incD : Statement .incD := fun _ => ⟨_, _, rfl, rfl⟩
theorem decD : Statement .decD := fun _ => ⟨_, _, rfl, rfl⟩
theorem ldDImm8 (n : Byte) : Statement (.ldDImm8 n) := fun _ => ⟨_, _, rfl, rfl⟩
theorem rla : Statement .rla := fun _ => ⟨_, _, rfl, rfl⟩
theorem jrE8 (e : Byte) : Statement (.jrE8 e) := fun _ => ⟨_, _, rfl, rfl⟩
theorem addHLDE : Statement .addHLDE := fun _ => ⟨_, _, rfl, rfl⟩
theorem ldAAtDE : Statement .ldAAtDE := fun _ => ⟨_, _, rfl, rfl⟩
theorem decDE : Statement .decDE := fun _ => ⟨_, _, rfl, rfl⟩
theorem incE : Statement .incE := fun _ => ⟨_, _, rfl, rfl⟩
theorem decE : Statement .decE := fun _ => ⟨_, _, rfl, rfl⟩
theorem ldEImm8 (n : Byte) : Statement (.ldEImm8 n) := fun _ => ⟨_, _, rfl, rfl⟩
theorem rra : Statement .rra := fun _ => ⟨_, _, rfl, rfl⟩
theorem jrNZE8 (e : Byte) : Statement (.jrNZE8 e) := fun _ => ⟨_, _, rfl, rfl⟩
theorem ldHLImm16 (nn : Word) : Statement (.ldHLImm16 nn) := fun _ => ⟨_, _, rfl, rfl⟩
theorem ldAtHLIncA : Statement .ldAtHLIncA := fun _ => ⟨_, _, rfl, rfl⟩
theorem incHL : Statement .incHL := fun _ => ⟨_, _, rfl, rfl⟩
theorem incH : Statement .incH := fun _ => ⟨_, _, rfl, rfl⟩
theorem decH : Statement .decH := fun _ => ⟨_, _, rfl, rfl⟩
theorem ldHImm8 (n : Byte) : Statement (.ldHImm8 n) := fun _ => ⟨_, _, rfl, rfl⟩
theorem daa : Statement .daa := fun _ => ⟨_, _, rfl, rfl⟩
theorem jrZE8 (e : Byte) : Statement (.jrZE8 e) := fun _ => ⟨_, _, rfl, rfl⟩
theorem addHLHL : Statement .addHLHL := fun _ => ⟨_, _, rfl, rfl⟩
theorem ldAAtHLInc : Statement .ldAAtHLInc := fun _ => ⟨_, _, rfl, rfl⟩
theorem decHL : Statement .decHL := fun _ => ⟨_, _, rfl, rfl⟩
theorem incL : Statement .incL := fun _ => ⟨_, _, rfl, rfl⟩
theorem decL : Statement .decL := fun _ => ⟨_, _, rfl, rfl⟩
theorem ldLImm8 (n : Byte) : Statement (.ldLImm8 n) := fun _ => ⟨_, _, rfl, rfl⟩
theorem cpl : Statement .cpl := fun _ => ⟨_, _, rfl, rfl⟩
theorem jrNCE8 (e : Byte) : Statement (.jrNCE8 e) := fun _ => ⟨_, _, rfl, rfl⟩
theorem ldSPImm16 (nn : Word) : Statement (.ldSPImm16 nn) := fun _ => ⟨_, _, rfl, rfl⟩
theorem ldAtHLDecA : Statement .ldAtHLDecA := fun _ => ⟨_, _, rfl, rfl⟩
theorem incSP : Statement .incSP := fun _ => ⟨_, _, rfl, rfl⟩
theorem incAtHL : Statement .incAtHL := fun _ => ⟨_, _, rfl, rfl⟩
theorem decAtHL : Statement .decAtHL := fun _ => ⟨_, _, rfl, rfl⟩
theorem ldAtHLImm8 (n : Byte) : Statement (.ldAtHLImm8 n) := fun _ => ⟨_, _, rfl, rfl⟩
theorem scf : Statement .scf := fun _ => ⟨_, _, rfl, rfl⟩
theorem jrCE8 (e : Byte) : Statement (.jrCE8 e) := fun _ => ⟨_, _, rfl, rfl⟩
theorem addHLSP : Statement .addHLSP := fun _ => ⟨_, _, rfl, rfl⟩
theorem ldAAtHLDec : Statement .ldAAtHLDec := fun _ => ⟨_, _, rfl, rfl⟩
theorem decSP : Statement .decSP := fun _ => ⟨_, _, rfl, rfl⟩
theorem incA : Statement .incA := fun _ => ⟨_, _, rfl, rfl⟩
theorem decA : Statement .decA := fun _ => ⟨_, _, rfl, rfl⟩
theorem ldAImm8 (n : Byte) : Statement (.ldAImm8 n) := fun _ => ⟨_, _, rfl, rfl⟩
theorem ccf : Statement .ccf := fun _ => ⟨_, _, rfl, rfl⟩
theorem ldBB : Statement .ldBB := fun _ => ⟨_, _, rfl, rfl⟩
theorem ldBC : Statement .ldBC := fun _ => ⟨_, _, rfl, rfl⟩
theorem ldBD : Statement .ldBD := fun _ => ⟨_, _, rfl, rfl⟩
theorem ldBE : Statement .ldBE := fun _ => ⟨_, _, rfl, rfl⟩
theorem ldBH : Statement .ldBH := fun _ => ⟨_, _, rfl, rfl⟩
theorem ldBL : Statement .ldBL := fun _ => ⟨_, _, rfl, rfl⟩
theorem ldBAtHL : Statement .ldBAtHL := fun _ => ⟨_, _, rfl, rfl⟩
theorem ldBA : Statement .ldBA := fun _ => ⟨_, _, rfl, rfl⟩
theorem ldCB : Statement .ldCB := fun _ => ⟨_, _, rfl, rfl⟩
theorem ldCC : Statement .ldCC := fun _ => ⟨_, _, rfl, rfl⟩
theorem ldCD : Statement .ldCD := fun _ => ⟨_, _, rfl, rfl⟩
theorem ldCE : Statement .ldCE := fun _ => ⟨_, _, rfl, rfl⟩
theorem ldCH : Statement .ldCH := fun _ => ⟨_, _, rfl, rfl⟩
theorem ldCL : Statement .ldCL := fun _ => ⟨_, _, rfl, rfl⟩
theorem ldCAtHL : Statement .ldCAtHL := fun _ => ⟨_, _, rfl, rfl⟩
theorem ldCA : Statement .ldCA := fun _ => ⟨_, _, rfl, rfl⟩
theorem ldDB : Statement .ldDB := fun _ => ⟨_, _, rfl, rfl⟩
theorem ldDC : Statement .ldDC := fun _ => ⟨_, _, rfl, rfl⟩
theorem ldDD : Statement .ldDD := fun _ => ⟨_, _, rfl, rfl⟩
theorem ldDE : Statement .ldDE := fun _ => ⟨_, _, rfl, rfl⟩
theorem ldDH : Statement .ldDH := fun _ => ⟨_, _, rfl, rfl⟩
theorem ldDL : Statement .ldDL := fun _ => ⟨_, _, rfl, rfl⟩
theorem ldDAtHL : Statement .ldDAtHL := fun _ => ⟨_, _, rfl, rfl⟩
theorem ldDA : Statement .ldDA := fun _ => ⟨_, _, rfl, rfl⟩
theorem ldEB : Statement .ldEB := fun _ => ⟨_, _, rfl, rfl⟩
theorem ldEC : Statement .ldEC := fun _ => ⟨_, _, rfl, rfl⟩
theorem ldED : Statement .ldED := fun _ => ⟨_, _, rfl, rfl⟩
theorem ldEE : Statement .ldEE := fun _ => ⟨_, _, rfl, rfl⟩
theorem ldEH : Statement .ldEH := fun _ => ⟨_, _, rfl, rfl⟩
theorem ldEL : Statement .ldEL := fun _ => ⟨_, _, rfl, rfl⟩
theorem ldEAtHL : Statement .ldEAtHL := fun _ => ⟨_, _, rfl, rfl⟩
theorem ldEA : Statement .ldEA := fun _ => ⟨_, _, rfl, rfl⟩
theorem ldHB : Statement .ldHB := fun _ => ⟨_, _, rfl, rfl⟩
theorem ldHC : Statement .ldHC := fun _ => ⟨_, _, rfl, rfl⟩
theorem ldHD : Statement .ldHD := fun _ => ⟨_, _, rfl, rfl⟩
theorem ldHE : Statement .ldHE := fun _ => ⟨_, _, rfl, rfl⟩
theorem ldHH : Statement .ldHH := fun _ => ⟨_, _, rfl, rfl⟩
theorem ldHL : Statement .ldHL := fun _ => ⟨_, _, rfl, rfl⟩
theorem ldHAtHL : Statement .ldHAtHL := fun _ => ⟨_, _, rfl, rfl⟩
theorem ldHA : Statement .ldHA := fun _ => ⟨_, _, rfl, rfl⟩
theorem ldLB : Statement .ldLB := fun _ => ⟨_, _, rfl, rfl⟩
theorem ldLC : Statement .ldLC := fun _ => ⟨_, _, rfl, rfl⟩
theorem ldLD : Statement .ldLD := fun _ => ⟨_, _, rfl, rfl⟩
theorem ldLE : Statement .ldLE := fun _ => ⟨_, _, rfl, rfl⟩
theorem ldLH : Statement .ldLH := fun _ => ⟨_, _, rfl, rfl⟩
theorem ldLL : Statement .ldLL := fun _ => ⟨_, _, rfl, rfl⟩
theorem ldLAtHL : Statement .ldLAtHL := fun _ => ⟨_, _, rfl, rfl⟩
theorem ldLA : Statement .ldLA := fun _ => ⟨_, _, rfl, rfl⟩
theorem ldAtHLB : Statement .ldAtHLB := fun _ => ⟨_, _, rfl, rfl⟩
theorem ldAtHLC : Statement .ldAtHLC := fun _ => ⟨_, _, rfl, rfl⟩
theorem ldAtHLD : Statement .ldAtHLD := fun _ => ⟨_, _, rfl, rfl⟩
theorem ldAtHLE : Statement .ldAtHLE := fun _ => ⟨_, _, rfl, rfl⟩
theorem ldAtHLH : Statement .ldAtHLH := fun _ => ⟨_, _, rfl, rfl⟩
theorem ldAtHLL : Statement .ldAtHLL := fun _ => ⟨_, _, rfl, rfl⟩
theorem halt : Statement .halt := fun _ => ⟨_, _, rfl, rfl⟩
theorem ldAtHLA : Statement .ldAtHLA := fun _ => ⟨_, _, rfl, rfl⟩
theorem ldAB : Statement .ldAB := fun _ => ⟨_, _, rfl, rfl⟩
theorem ldAC : Statement .ldAC := fun _ => ⟨_, _, rfl, rfl⟩
theorem ldAD : Statement .ldAD := fun _ => ⟨_, _, rfl, rfl⟩
theorem ldAE : Statement .ldAE := fun _ => ⟨_, _, rfl, rfl⟩
theorem ldAH : Statement .ldAH := fun _ => ⟨_, _, rfl, rfl⟩
theorem ldAL : Statement .ldAL := fun _ => ⟨_, _, rfl, rfl⟩
theorem ldAAtHL : Statement .ldAAtHL := fun _ => ⟨_, _, rfl, rfl⟩
theorem ldAA : Statement .ldAA := fun _ => ⟨_, _, rfl, rfl⟩
theorem addAB : Statement .addAB := fun _ => ⟨_, _, rfl, rfl⟩
theorem addAC : Statement .addAC := fun _ => ⟨_, _, rfl, rfl⟩
theorem addAD : Statement .addAD := fun _ => ⟨_, _, rfl, rfl⟩
theorem addAE : Statement .addAE := fun _ => ⟨_, _, rfl, rfl⟩
theorem addAH : Statement .addAH := fun _ => ⟨_, _, rfl, rfl⟩
theorem addAL : Statement .addAL := fun _ => ⟨_, _, rfl, rfl⟩
theorem addAAtHL : Statement .addAAtHL := fun _ => ⟨_, _, rfl, rfl⟩
theorem addAA : Statement .addAA := fun _ => ⟨_, _, rfl, rfl⟩
theorem adcAB : Statement .adcAB := fun _ => ⟨_, _, rfl, rfl⟩
theorem adcAC : Statement .adcAC := fun _ => ⟨_, _, rfl, rfl⟩
theorem adcAD : Statement .adcAD := fun _ => ⟨_, _, rfl, rfl⟩
theorem adcAE : Statement .adcAE := fun _ => ⟨_, _, rfl, rfl⟩
theorem adcAH : Statement .adcAH := fun _ => ⟨_, _, rfl, rfl⟩
theorem adcAL : Statement .adcAL := fun _ => ⟨_, _, rfl, rfl⟩
theorem adcAAtHL : Statement .adcAAtHL := fun _ => ⟨_, _, rfl, rfl⟩
theorem adcAA : Statement .adcAA := fun _ => ⟨_, _, rfl, rfl⟩
theorem subAB : Statement .subAB := fun _ => ⟨_, _, rfl, rfl⟩
theorem subAC : Statement .subAC := fun _ => ⟨_, _, rfl, rfl⟩
theorem subAD : Statement .subAD := fun _ => ⟨_, _, rfl, rfl⟩
theorem subAE : Statement .subAE := fun _ => ⟨_, _, rfl, rfl⟩
theorem subAH : Statement .subAH := fun _ => ⟨_, _, rfl, rfl⟩
theorem subAL : Statement .subAL := fun _ => ⟨_, _, rfl, rfl⟩
theorem subAAtHL : Statement .subAAtHL := fun _ => ⟨_, _, rfl, rfl⟩
theorem subAA : Statement .subAA := fun _ => ⟨_, _, rfl, rfl⟩
theorem sbcAB : Statement .sbcAB := fun _ => ⟨_, _, rfl, rfl⟩
theorem sbcAC : Statement .sbcAC := fun _ => ⟨_, _, rfl, rfl⟩
theorem sbcAD : Statement .sbcAD := fun _ => ⟨_, _, rfl, rfl⟩
theorem sbcAE : Statement .sbcAE := fun _ => ⟨_, _, rfl, rfl⟩
theorem sbcAH : Statement .sbcAH := fun _ => ⟨_, _, rfl, rfl⟩
theorem sbcAL : Statement .sbcAL := fun _ => ⟨_, _, rfl, rfl⟩
theorem sbcAAtHL : Statement .sbcAAtHL := fun _ => ⟨_, _, rfl, rfl⟩
theorem sbcAA : Statement .sbcAA := fun _ => ⟨_, _, rfl, rfl⟩
theorem andAB : Statement .andAB := fun _ => ⟨_, _, rfl, rfl⟩
theorem andAC : Statement .andAC := fun _ => ⟨_, _, rfl, rfl⟩
theorem andAD : Statement .andAD := fun _ => ⟨_, _, rfl, rfl⟩
theorem andAE : Statement .andAE := fun _ => ⟨_, _, rfl, rfl⟩
theorem andAH : Statement .andAH := fun _ => ⟨_, _, rfl, rfl⟩
theorem andAL : Statement .andAL := fun _ => ⟨_, _, rfl, rfl⟩
theorem andAAtHL : Statement .andAAtHL := fun _ => ⟨_, _, rfl, rfl⟩
theorem andAA : Statement .andAA := fun _ => ⟨_, _, rfl, rfl⟩
theorem xorAB : Statement .xorAB := fun _ => ⟨_, _, rfl, rfl⟩
theorem xorAC : Statement .xorAC := fun _ => ⟨_, _, rfl, rfl⟩
theorem xorAD : Statement .xorAD := fun _ => ⟨_, _, rfl, rfl⟩
theorem xorAE : Statement .xorAE := fun _ => ⟨_, _, rfl, rfl⟩
theorem xorAH : Statement .xorAH := fun _ => ⟨_, _, rfl, rfl⟩
theorem xorAL : Statement .xorAL := fun _ => ⟨_, _, rfl, rfl⟩
theorem xorAAtHL : Statement .xorAAtHL := fun _ => ⟨_, _, rfl, rfl⟩
theorem xorAA : Statement .xorAA := fun _ => ⟨_, _, rfl, rfl⟩
theorem orAB : Statement .orAB := fun _ => ⟨_, _, rfl, rfl⟩
theorem orAC : Statement .orAC := fun _ => ⟨_, _, rfl, rfl⟩
theorem orAD : Statement .orAD := fun _ => ⟨_, _, rfl, rfl⟩
theorem orAE : Statement .orAE := fun _ => ⟨_, _, rfl, rfl⟩
theorem orAH : Statement .orAH := fun _ => ⟨_, _, rfl, rfl⟩
theorem orAL : Statement .orAL := fun _ => ⟨_, _, rfl, rfl⟩
theorem orAAtHL : Statement .orAAtHL := fun _ => ⟨_, _, rfl, rfl⟩
theorem orAA : Statement .orAA := fun _ => ⟨_, _, rfl, rfl⟩
theorem cpAB : Statement .cpAB := fun _ => ⟨_, _, rfl, rfl⟩
theorem cpAC : Statement .cpAC := fun _ => ⟨_, _, rfl, rfl⟩
theorem cpAD : Statement .cpAD := fun _ => ⟨_, _, rfl, rfl⟩
theorem cpAE : Statement .cpAE := fun _ => ⟨_, _, rfl, rfl⟩
theorem cpAH : Statement .cpAH := fun _ => ⟨_, _, rfl, rfl⟩
theorem cpAL : Statement .cpAL := fun _ => ⟨_, _, rfl, rfl⟩
theorem cpAAtHL : Statement .cpAAtHL := fun _ => ⟨_, _, rfl, rfl⟩
theorem cpAA : Statement .cpAA := fun _ => ⟨_, _, rfl, rfl⟩
theorem retNZ : Statement .retNZ := fun _ => ⟨_, _, rfl, rfl⟩
theorem popBC : Statement .popBC := fun _ => ⟨_, _, rfl, rfl⟩
theorem jpNZA16 (nn : Word) : Statement (.jpNZA16 nn) := fun _ => ⟨_, _, rfl, rfl⟩
theorem jpA16 (nn : Word) : Statement (.jpA16 nn) := fun _ => ⟨_, _, rfl, rfl⟩
theorem callNZA16 (nn : Word) : Statement (.callNZA16 nn) := fun _ => ⟨_, _, rfl, rfl⟩
theorem pushBC : Statement .pushBC := fun _ => ⟨_, _, rfl, rfl⟩
theorem addAImm8 (n : Byte) : Statement (.addAImm8 n) := fun _ => ⟨_, _, rfl, rfl⟩
theorem rst00 : Statement .rst00 := fun _ => ⟨_, _, rfl, rfl⟩
theorem retZ : Statement .retZ := fun _ => ⟨_, _, rfl, rfl⟩
theorem ret : Statement .ret := fun _ => ⟨_, _, rfl, rfl⟩
theorem jpZA16 (nn : Word) : Statement (.jpZA16 nn) := fun _ => ⟨_, _, rfl, rfl⟩
theorem callZA16 (nn : Word) : Statement (.callZA16 nn) := fun _ => ⟨_, _, rfl, rfl⟩
theorem callA16 (nn : Word) : Statement (.callA16 nn) := fun _ => ⟨_, _, rfl, rfl⟩
theorem adcAImm8 (n : Byte) : Statement (.adcAImm8 n) := fun _ => ⟨_, _, rfl, rfl⟩
theorem rst08 : Statement .rst08 := fun _ => ⟨_, _, rfl, rfl⟩
theorem retNC : Statement .retNC := fun _ => ⟨_, _, rfl, rfl⟩
theorem popDE : Statement .popDE := fun _ => ⟨_, _, rfl, rfl⟩
theorem jpNCA16 (nn : Word) : Statement (.jpNCA16 nn) := fun _ => ⟨_, _, rfl, rfl⟩
theorem invalid (op : Byte) : Statement (.invalid op) := by
  intro h
  refine ⟨op, [], rfl, ?_⟩
  simp only [Instr.wellFormed, invalidOpcodes, List.contains_eq_mem, decide_eq_true_eq, List.mem_cons, List.not_mem_nil,
    or_false] at h
  rcases h with h | h | h | h | h | h | h | h | h | h | h <;> subst h <;> rfl
theorem callNCA16 (nn : Word) : Statement (.callNCA16 nn) := fun _ => ⟨_, _, rfl, rfl⟩
theorem pushDE : Statement .pushDE := fun _ => ⟨_, _, rfl, rfl⟩
theorem subAImm8 (n : Byte) : Statement (.subAImm8 n) := fun _ => ⟨_, _, rfl, rfl⟩
theorem rst10 : Statement .rst10 := fun _ => ⟨_, _, rfl, rfl⟩
theorem retC : Statement .retC := fun _ => ⟨_, _, rfl, rfl⟩
theorem reti : Statement .reti := fun _ => ⟨_, _, rfl, rfl⟩
theorem jpCA16 (nn : Word) : Statement (.jpCA16 nn) := fun _ => ⟨_, _, rfl, rfl⟩
theorem callCA16 (nn : Word) : Statement (.callCA16 nn) := fun _ => ⟨_, _, rfl, rfl⟩
theorem sbcAImm8 (n : Byte) : Statement (.sbcAImm8 n) := fun _ => ⟨_, _, rfl, rfl⟩
theorem rst18 : Statement .rst18 := fun _ => ⟨_, _, rfl, rfl⟩
theorem ldhAtA8A (n : Byte) : Statement (.ldhAtA8A n) := fun _ => ⟨_, _, rfl, rfl⟩
theorem popHL : Statement .popHL := fun _ => ⟨_, _, rfl, rfl⟩
theorem ldAtCA : Statement .ldAtCA := fun _ => ⟨_, _, rfl, rfl⟩
theorem pushHL : Statement .pushHL := fun _ => ⟨_, _, rfl, rfl⟩
theorem andAImm8 (n : Byte) : Statement (.andAImm8 n) := fun _ => ⟨_, _, rfl, rfl⟩
theorem rst20 : Statement .rst20 := fun _ => ⟨_, _, rfl, rfl⟩
theorem addSPE8 (e : Byte) : Statement (.addSPE8 e) := fun _ => ⟨_, _, rfl, rfl⟩
theorem jpHL : Statement .jpHL := fun _ => ⟨_, _, rfl, rfl⟩
theorem ldAtA16A (nn : Word) : Statement (.ldAtA16A nn) := fun _ => ⟨_, _, rfl, rfl⟩
theorem xorAImm8 (n : Byte) : Statement (.xorAImm8 n) := fun _ => ⟨_, _, rfl, rfl⟩
theorem rst28 : Statement .rst28 := fun _ => ⟨_, _, rfl, rfl⟩
theorem ldhAAtA8 (n : Byte) : Statement (.ldhAAtA8 n) := fun _ => ⟨_, _, rfl, rfl⟩
theorem popAF : Statement .popAF := fun _ => ⟨_, _, rfl, rfl⟩
theorem ldAAtC : Statement .ldAAtC := fun _ => ⟨_, _, rfl, rfl⟩
theorem di : Statement .di := fun _ => ⟨_, _, rfl, rfl⟩
theorem pushAF : Statement .pushAF := fun _ => ⟨_, _, rfl, rfl⟩
theorem orAImm8 (n : Byte) : Statement (.orAImm8 n) := fun _ => ⟨_, _, rfl, rfl⟩
theorem rst30 : Statement .rst30 := fun _ => ⟨_, _, rfl, rfl⟩
theorem ldHLSPE8 (e : Byte) : Statement (.ldHLSPE8 e) := fun _ => ⟨_, _, rfl, rfl⟩
theorem ldSPHL : Statement .ldSPHL := fun _ => ⟨_, _, rfl, rfl⟩
theorem ldAAtA16 (nn : Word) : Statement (.ldAAtA16 nn) := fun _ => ⟨_, _, rfl, rfl⟩
theorem ei : Statement .ei := fun _ => ⟨_, _, rfl, rfl⟩
theorem cpAImm8 (n : Byte) : Statement (.cpAImm8 n) := fun _ => ⟨_, _, rfl, rfl⟩
theorem rst38 : Statement .rst38 := fun _ => ⟨_, _, rfl, rfl⟩
theorem rlcB : Statement .rlcB := fun _ => ⟨_, _, rfl, rfl⟩
theorem rlcC : Statement .rlcC := fun _ => ⟨_, _, rfl, rfl⟩
theorem rlcD : Statement .rlcD := fun _ => ⟨_, _, rfl, rfl⟩
theorem rlcE : Statement .rlcE := fun _ => ⟨_, _, rfl, rfl⟩
theorem rlcH : Statement .rlcH := fun _ => ⟨_, _, rfl, rfl⟩
theorem rlcL : Statement .rlcL := fun _ => ⟨_, _, rfl, rfl⟩
theorem rlcAtHL : Statement .rlcAtHL := fun _ => ⟨_, _, rfl, rfl⟩
theorem rlcA : Statement .rlcA := fun _ => ⟨_, _, rfl, rfl⟩
theorem rrcB : Statement .rrcB := fun _ => ⟨_, _, rfl, rfl⟩
theorem rrcC : Statement .rrcC := fun _ => ⟨_, _, rfl, rfl⟩
theorem rrcD : Statement .rrcD := fun _ => ⟨_, _, rfl, rfl⟩
theorem rrcE : Statement .rrcE := fun _ => ⟨_, _, rfl, rfl⟩
theorem rrcH : Statement .rrcH := fun _ => ⟨_, _, rfl, rfl⟩
theorem rrcL : Statement .rrcL := fun _ => ⟨_, _, rfl, rfl⟩
theorem rrcAtHL : Statement .rrcAtHL := fun _ => ⟨_, _, rfl, rfl⟩
theorem rrcA : Statement .rrcA := fun _ => ⟨_, _, rfl, rfl⟩
theorem rlB : Statement .rlB := fun _ => ⟨_, _, rfl, rfl⟩
theorem rlC : Statement .rlC := fun _ => ⟨_, _, rfl, rfl⟩
theorem rlD : Statement .rlD := fun _ => ⟨_, _, rfl, rfl⟩
theorem rlE : Statement .rlE := fun _ => ⟨_, _, rfl, rfl⟩
theorem rlH : Statement .rlH := fun _ => ⟨_, _, rfl, rfl⟩
theorem rlL : Statement .rlL := fun _ => ⟨_, _, rfl, rfl⟩
theorem rlAtHL : Statement .rlAtHL := fun _ => ⟨_, _, rfl, rfl⟩
theorem rlA : Statement .rlA := fun _ => ⟨_, _, rfl, rfl⟩
theorem rrB : Statement .rrB := fun _ => ⟨_, _, rfl, rfl⟩
theorem rrC : Statement .rrC := fun _ => ⟨_, _, rfl, rfl⟩
theorem rrD : Statement .rrD := fun _ => ⟨_, _, rfl, rfl⟩
theorem rrE : Statement .rrE := fun _ => ⟨_, _, rfl, rfl⟩
theorem rrH : Statement .rrH := fun _ => ⟨_, _, rfl, rfl⟩
theorem rrL : Statement .rrL := fun _ => ⟨_, _, rfl, rfl⟩
theorem rrAtHL : Statement .rrAtHL := fun _ => ⟨_, _, rfl, rfl⟩
theorem rrA : Statement .rrA := fun _ => ⟨_, _, rfl, rfl⟩
theorem slaB : Statement .slaB := fun _ => ⟨_, _, rfl, rfl⟩
theorem slaC : Statement .slaC := fun _ => ⟨_, _, rfl, rfl⟩
theorem slaD : Statement .slaD := fun _ => ⟨_, _, rfl, rfl⟩
theorem slaE : Statement .slaE := fun _ => ⟨_, _, rfl, rfl⟩
theorem slaH : Statement .slaH := fun _ => ⟨_, _, rfl, rfl⟩
theorem slaL : Statement .slaL := fun _ => ⟨_, _, rfl, rfl⟩
theorem slaAtHL : Statement .slaAtHL := fun _ => ⟨_, _, rfl, rfl⟩
theorem slaA : Statement .slaA := fun _ => ⟨_, _, rfl, rfl⟩
theorem sraB : Statement .sraB := fun _ => ⟨_, _, rfl, rfl⟩
theorem sraC : Statement .sraC := fun _ => ⟨_, _, rfl, rfl⟩
theorem sraD : Statement .sraD := fun _ => ⟨_, _, rfl, rfl⟩
theorem sraE : Statement .sraE := fun _ => ⟨_, _, rfl, rfl⟩
theorem sraH : Statement .sraH := fun _ => ⟨_, _, rfl, rfl⟩
theorem sraL : Statement .sraL := fun _ => ⟨_, _, rfl, rfl⟩
theorem sraAtHL : Statement .sraAtHL := fun _ => ⟨_, _, rfl, rfl⟩
theorem sraA : Statement .sraA := fun _ => ⟨_, _, rfl, rfl⟩
theorem swapB : Statement .swapB := fun _ => ⟨_, _, rfl, rfl⟩
theorem swapC : Statement .swapC := fun _ => ⟨_, _, rfl, rfl⟩
theorem swapD : Statement .swapD := fun _ => ⟨_, _, rfl, rfl⟩
theorem swapE : Statement .swapE := fun _ => ⟨_, _, rfl, rfl⟩
theorem swapH : Statement .swapH := fun _ => ⟨_, _, rfl, rfl⟩
theorem swapL : Statement .swapL := fun _ => ⟨_, _, rfl, rfl⟩
theorem swapAtHL : Statement .swapAtHL := fun _ => ⟨_, _, rfl, rfl⟩
theorem swapA : Statement .swapA := fun _ => ⟨_, _, rfl, rfl⟩
theorem srlB : Statement .srlB := fun _ => ⟨_, _, rfl, rfl⟩
theorem srlC : Statement .srlC := fun _ => ⟨_, _, rfl, rfl⟩
theorem srlD : Statement .srlD := fun _ => ⟨_, _, rfl, rfl⟩
theorem srlE : Statement .srlE := fun _ => ⟨_, _, rfl, rfl⟩
theorem srlH : Statement .srlH := fun _ => ⟨_, _, rfl, rfl⟩
theorem srlL : Statement .srlL := fun _ => ⟨_, _, rfl, rfl⟩
theorem srlAtHL : Statement .srlAtHL := fun _ => ⟨_, _, rfl, rfl⟩
theorem srlA : Statement .srlA := fun _ => ⟨_, _, rfl, rfl⟩
theorem bit0B : Statement .bit0B := fun _ => ⟨_, _, rfl, rfl⟩
theorem bit0C : Statement .bit0C := fun _ => ⟨_, _, rfl, rfl⟩
theorem bit0D : Statement .bit0D := fun _ => ⟨_, _, rfl, rfl⟩
theorem bit0E : Statement .bit0E := fun _ => ⟨_, _, rfl, rfl⟩
theorem bit0H : Statement .bit0H := fun _ => ⟨_, _, rfl, rfl⟩
theorem bit0L : Statement .bit0L := fun _ => ⟨_, _, rfl, rfl⟩
theorem bit0AtHL : Statement .bit0AtHL := fun _ => ⟨_, _, rfl, rfl⟩
theorem bit0A : Statement .bit0A := fun _ => ⟨_, _, rfl, rfl⟩
theorem bit1B : Statement .bit1B := fun _ => ⟨_, _, rfl, rfl⟩
theorem bit1C : Statement .bit1C := fun _ => ⟨_, _, rfl, rfl⟩
theorem bit1D : Statement .bit1D := fun _ => ⟨_, _, rfl, rfl⟩
theorem bit1E : Statement .bit1E := fun _ => ⟨_, _, rfl, rfl⟩
theorem bit1H : Statement .bit1H := fun _ => ⟨_, _, rfl, rfl⟩
theorem bit1L : Statement .bit1L := fun _ => ⟨_, _, rfl, rfl⟩
theorem bit1AtHL : Statement .bit1AtHL := fun _ => ⟨_, _, rfl, rfl⟩
theorem bit1A : Statement .bit1A := fun _ => ⟨_, _, rfl, rfl⟩
theorem bit2B : Statement .bit2B := fun _ => ⟨_, _, rfl, rfl⟩
theorem bit2C : Statement .bit2C := fun _ => ⟨_, _, rfl, rfl⟩
theorem bit2D : Statement .bit2D := fun _ => ⟨_, _, rfl, rfl⟩
theorem bit2E : Statement .bit2E := fun _ => ⟨_, _, rfl, rfl⟩
theorem bit2H : Statement .bit2H := fun _ => ⟨_, _, rfl, rfl⟩
theorem bit2L : Statement .bit2L := fun _ => ⟨_, _, rfl, rfl⟩
theorem bit2AtHL : Statement .bit2AtHL := fun _ => ⟨_, _, rfl, rfl⟩
theorem bit2A : Statement .bit2A := fun _ => ⟨_, _, rfl, rfl⟩
theorem bit3B : Statement .bit3B := fun _ => ⟨_, _, rfl, rfl⟩
theorem bit3C : Statement .bit3C := fun _ => ⟨_, _, rfl, rfl⟩
theorem bit3D : Statement .bit3D := fun _ => ⟨_, _, rfl, rfl⟩
theorem bit3E : Statement .bit3E := fun _ => ⟨_, _, rfl, rfl⟩
theorem bit3H : Statement .bit3H := fun _ => ⟨_, _, rfl, rfl⟩
theorem bit3L : Statement .bit3L := fun _ => ⟨_, _, rfl, rfl⟩
theorem bit3AtHL : Statement .bit3AtHL := fun _ => ⟨_, _, rfl, rfl⟩
theorem bit3A : Statement .bit3A := fun _ => ⟨_, _, rfl, rfl⟩
theorem bit4B : Statement .bit4B := fun _ => ⟨_, _, rfl, rfl⟩
theorem bit4C : Statement .bit4C := fun _ => ⟨_, _, rfl, rfl⟩
theorem bit4D : Statement .bit4D := fun _ => ⟨_, _, rfl, rfl⟩
theorem bit4E : Statement .bit4E := fun _ => ⟨_, _, rfl, rfl⟩
theorem bit4H : Statement .bit4H := fun _ => ⟨_, _, rfl, rfl⟩
theorem bit4L : Statement .bit4L := fun _ => ⟨_, _, rfl, rfl⟩
theorem bit4AtHL : Statement .bit4AtHL := fun _ => ⟨_, _, rfl, rfl⟩
theorem bit4A : Statement .bit4A := fun _ => ⟨_, _, rfl, rfl⟩
theorem bit5B : Statement .bit5B := fun _ => ⟨_, _, rfl, rfl⟩
theorem bit5C : Statement .bit5C := fun _ => ⟨_, _, rfl, rfl⟩
theorem bit5D : Statement .bit5D := fun _ => ⟨_, _, rfl, rfl⟩
theorem bit5E : Statement .bit5E := fun _ => ⟨_, _, rfl, rfl⟩
theorem bit5H : Statement .bit5H := fun _ => ⟨_, _, rfl, rfl⟩
theorem bit5L : Statement .bit5L := fun _ => ⟨_, _, rfl, rfl⟩
theorem bit5AtHL : Statement .bit5AtHL := fun _ => ⟨_, _, rfl, rfl⟩
theorem bit5A : Statement .bit5A := fun _ => ⟨_, _, rfl, rfl⟩
theorem bit6B : Statement .bit6B := fun _ => ⟨_, _, rfl, rfl⟩
theorem bit6C : Statement .bit6C := fun _ => ⟨_, _, rfl, rfl⟩
theorem bit6D : Statement .bit6D := fun _ => ⟨_, _, rfl, rfl⟩
theorem bit6E : Statement .bit6E := fun _ => ⟨_, _, rfl, rfl⟩
theorem bit6H : Statement .bit6H := fun _ => ⟨_, _, rfl, rfl⟩
theorem bit6L : Statement .bit6L := fun _ => ⟨_, _, rfl, rfl⟩
theorem bit6AtHL : Statement .bit6AtHL := fun _ => ⟨_, _, rfl, rfl⟩
theorem bit6A : Statement .bit6A := fun _ => ⟨_, _, rfl, rfl⟩
theorem bit7B : Statement .bit7B := fun _ => ⟨_, _, rfl, rfl⟩
theorem bit7C : Statement .bit7C := fun _ => ⟨_, _, rfl, rfl⟩
theorem bit7D : Statement .bit7D := fun _ => ⟨_, _, rfl, rfl⟩
theorem bit7E : Statement .bit7E := fun _ => ⟨_, _, rfl, rfl⟩
theorem bit7H : Statement .bit7H := fun _ => ⟨_, _, rfl, rfl⟩
theorem bit7L : Statement .bit7L := fun _ => ⟨_, _, rfl, rfl⟩
theorem bit7AtHL : Statement .bit7AtHL := fun _ => ⟨_, _, rfl, rfl⟩
theorem bit7A : Statement .bit7A := fun _ => ⟨_, _, rfl, rfl⟩
theorem res0B : Statement .res0B := fun _ => ⟨_, _, rfl, rfl⟩
theorem res0C : Statement .res0C := fun _ => ⟨_, _, rfl, rfl⟩
theorem res0D : Statement .res0D := fun _ => ⟨_, _, rfl, rfl⟩
theorem res0E : Statement .res0E := fun _ => ⟨_, _, rfl, rfl⟩
theorem res0H : Statement .res0H := fun _ => ⟨_, _, rfl, rfl⟩
theorem res0L : Statement .res0L := fun _ => ⟨_, _, rfl, rfl⟩
theorem res0AtHL : Statement .res0AtHL := fun _ => ⟨_, _, rfl, rfl⟩
theorem res0A : Statement .res0A := fun _ => ⟨_, _, rfl, rfl⟩
theorem res1B : Statement .res1B := fun _ => ⟨_, _, rfl, rfl⟩
theorem res1C : Statement .res1C := fun _ => ⟨_, _, rfl, rfl⟩
theorem res1D : Statement .res1D := fun _ => ⟨_, _, rfl, rfl⟩
theorem res1E : Statement .res1E := fun _ => ⟨_, _, rfl, rfl⟩
theorem res1H : Statement .res1H := fun _ => ⟨_, _, rfl, rfl⟩
theorem res1L : Statement .res1L := fun _ => ⟨_, _, rfl, rfl⟩
theorem res1AtHL : Statement .res1AtHL := fun _ => ⟨_, _, rfl, rfl⟩
theorem res1A : Statement .res1A := fun _ => ⟨_, _, rfl, rfl⟩
theorem res2B : Statement .res2B := fun _ => ⟨_, _, rfl, rfl⟩
theorem res2C : Statement .res2C := fun _ => ⟨_, _, rfl, rfl⟩
theorem res2D : Statement .res2D := fun _ => ⟨_, _, rfl, rfl⟩
theorem res2E : Statement .res2E := fun _ => ⟨_, _, rfl, rfl⟩
theorem res2H : Statement .res2H := fun _ => ⟨_, _, rfl, rfl⟩
theorem res2L : Statement .res2L := fun _ => ⟨_, _, rfl, rfl⟩
theorem res2AtHL : Statement .res2AtHL := fun _ => ⟨_, _, rfl, rfl⟩
theorem res2A : Statement .res2A := fun _ => ⟨_, _, rfl, rfl⟩
theorem res3B : Statement .res3B := fun _ => ⟨_, _, rfl, rfl⟩
theorem res3C : Statement .res3C := fun _ => ⟨_, _, rfl, rfl⟩
theorem res3D : Statement .res3D := fun _ => ⟨_, _, rfl, rfl⟩
theorem res3E : Statement .res3E := fun _ => ⟨_, _, rfl, rfl⟩
theorem res3H : Statement .res3H := fun _ => ⟨_, _, rfl, rfl⟩
theorem res3L : Statement .res3L := fun _ => ⟨_, _, rfl, rfl⟩
theorem res3AtHL : Statement .res3AtHL := fun _ => ⟨_, _, rfl, rfl⟩
theorem res3A : Statement .res3A := fun _ => ⟨_, _, rfl, rfl⟩
theorem res4B : Statement .res4B := fun _ => ⟨_, _, rfl, rfl⟩
theorem res4C : Statement .res4C := fun _ => ⟨_, _, rfl, rfl⟩
theorem res4D : Statement .res4D := fun _ => ⟨_, _, rfl, rfl⟩
theorem res4E : Statement .res4E := fun _ => ⟨_, _, rfl, rfl⟩
theorem res4H : Statement .res4H := fun _ => ⟨_, _, rfl, rfl⟩
theorem res4L : Statement .res4L := fun _ => ⟨_, _, rfl, rfl⟩
theorem res4AtHL : Statement .res4AtHL := fun _ => ⟨_, _, rfl, rfl⟩
theorem res4A : Statement .res4A := fun _ => ⟨_, _, rfl, rfl⟩
theorem res5B : Statement .res5B := fun _ => ⟨_, _, rfl, rfl⟩
theorem res5C : Statement .res5C := fun _ => ⟨_, _, rfl, rfl⟩
theorem res5D : Statement .res5D := fun _ => ⟨_, _, rfl, rfl⟩
theorem res5E : Statement .res5E := fun _ => ⟨_, _, rfl, rfl⟩
theorem res5H : Statement .res5H := fun _ => ⟨_, _, rfl, rfl⟩
theorem res5L : Statement .res5L := fun _ => ⟨_, _, rfl, rfl⟩
theorem res5AtHL : Statement .res5AtHL := fun _ => ⟨_, _, rfl, rfl⟩
theorem res5A : Statement .res5A := fun _ => ⟨_, _, rfl, rfl⟩
theorem res6B : Statement .res6B := fun _ => ⟨_, _, rfl, rfl⟩
theorem res6C : Statement .res6C := fun _ => ⟨_, _, rfl, rfl⟩
theorem res6D : Statement .res6D := fun _ => ⟨_, _, rfl, rfl⟩
theorem res6E : Statement .res6E := fun _ => ⟨_, _, rfl, rfl⟩
theorem res6H : Statement .res6H := fun _ => ⟨_, _, rfl, rfl⟩
theorem res6L : Statement .res6L := fun _ => ⟨_, _, rfl, rfl⟩
theorem res6AtHL : Statement .res6AtHL := fun _ => ⟨_, _, rfl, rfl⟩
theorem res6A : Statement .res6A := fun _ => ⟨_, _, rfl, rfl⟩
theorem res7B : Statement .res7B := fun _ => ⟨_, _, rfl, rfl⟩
theorem res7C : Statement .res7C := fun _ => ⟨_, _, rfl, rfl⟩
theorem res7D : Statement .res7D := fun _ => ⟨_, _, rfl, rfl⟩
theorem res7E : Statement .res7E := fun _ => ⟨_, _, rfl, rfl⟩
theorem res7H : Statement .res7H := fun _ => ⟨_, _, rfl, rfl⟩
theorem res7L : Statement .res7L := fun _ => ⟨_, _, rfl, rfl⟩
theorem res7AtHL : Statement .res7AtHL := fun _ => ⟨_, _, rfl, rfl⟩
theorem res7A : Statement .res7A := fun _ => ⟨_, _, rfl, rfl⟩
theorem set0B : Statement .set0B := fun _ => ⟨_, _, rfl, rfl⟩
theorem set0C : Statement .set0C := fun _ => ⟨_, _, rfl, rfl⟩
theorem set0D : Statement .set0D := fun _ => ⟨_, _, rfl, rfl⟩
theorem set0E : Statement .set0E := fun _ => ⟨_, _, rfl, rfl⟩
theorem set0H : Statement .set0H := fun _ => ⟨_, _, rfl, rfl⟩
theorem set0L : Statement .set0L := fun _ => ⟨_, _, rfl, rfl⟩
theorem set0AtHL : Statement .set0AtHL := fun _ => ⟨_, _, rfl, rfl⟩
theorem set0A : Statement .set0A := fun _ => ⟨_, _, rfl, rfl⟩
theorem set1B : Statement .set1B := fun _ => ⟨_, _, rfl, rfl⟩
theorem set1C : Statement .set1C := fun _ => ⟨_, _, rfl, rfl⟩
theorem set1D : Statement .set1D := fun _ => ⟨_, _, rfl, rfl⟩
theorem set1E : Statement .set1E := fun _ => ⟨_, _, rfl, rfl⟩
theorem set1H : Statement .set1H := fun _ => ⟨_, _, rfl, rfl⟩
theorem set1L : Statement .set1L := fun _ => ⟨_, _, rfl, rfl⟩
theorem set1AtHL : Statement .set1AtHL := fun _ => ⟨_, _, rfl, rfl⟩
theorem set1A : Statement .set1A := fun _ => ⟨_, _, rfl, rfl⟩
theorem set2B : Statement .set2B := fun _ => ⟨_, _, rfl, rfl⟩
theorem set2C : Statement .set2C := fun _ => ⟨_, _, rfl, rfl⟩
theorem set2D : Statement .set2D := fun _ => ⟨_, _, rfl, rfl⟩
theorem set2E : Statement .set2E := fun _ => ⟨_, _, rfl, rfl⟩
theorem set2H : Statement .set2H := fun _ => ⟨_, _, rfl, rfl⟩
theorem set2L : Statement .set2L := fun _ => ⟨_, _, rfl, rfl⟩
theorem set2AtHL : Statement .set2AtHL := fun _ => ⟨_, _, rfl, rfl⟩
theorem set2A : Statement .set2A := fun _ => ⟨_, _, rfl, rfl⟩
theorem set3B : Statement .set3B := fun _ => ⟨_, _, rfl, rfl⟩
theorem set3C : Statement .set3C := fun _ => ⟨_, _, rfl, rfl⟩
theorem set3D : Statement .set3D := fun _ => ⟨_, _, rfl, rfl⟩
theorem set3E : Statement .set3E := fun _ => ⟨_, _, rfl, rfl⟩
theorem set3H : Statement .set3H := fun _ => ⟨_, _, rfl, rfl⟩
theorem set3L : Statement .set3L := fun _ => ⟨_, _, rfl, rfl⟩
theorem set3AtHL : Statement .set3AtHL := fun _ => ⟨_, _, rfl, rfl⟩
theorem set3A : Statement .set3A := fun _ => ⟨_, _, rfl, rfl⟩
theorem set4B : Statement .set4B := fun _ => ⟨_, _, rfl, rfl⟩
theorem set4C : Statement .set4C := fun _ => ⟨_, _, rfl, rfl⟩
theorem set4D : Statement .set4D := fun _ => ⟨_, _, rfl, rfl⟩
theorem set4E : Statement .set4E := fun _ => ⟨_, _, rfl, rfl⟩
theorem set4H : Statement .set4H := fun _ => ⟨_, _, rfl, rfl⟩
theorem set4L : Statement .set4L := fun _ => ⟨_, _, rfl, rfl⟩
theorem set4AtHL : Statement .set4AtHL := fun _ => ⟨_, _, rfl, rfl⟩
theorem set4A : Statement .set4A := fun _ => ⟨_, _, rfl, rfl⟩
theorem set5B : Statement .set5B := fun _ => ⟨_, _, rfl, rfl⟩
theorem set5C : Statement .set5C := fun _ => ⟨_, _, rfl, rfl⟩
theorem set5D : Statement .set5D := fun _ => ⟨_, _, rfl, rfl⟩
theorem set5E : Statement .set5E := fun _ => ⟨_, _, rfl, rfl⟩
theorem set5H : Statement .set5H := fun _ => ⟨_, _, rfl, rfl⟩
theorem set5L : Statement .set5L := fun _ => ⟨_, _, rfl, rfl⟩
theorem set5AtHL : Statement .set5AtHL := fun _ => ⟨_, _, rfl, rfl⟩
theorem set5A : Statement .set5A := fun _ => ⟨_, _, rfl, rfl⟩
theorem set6B : Statement .set6B := fun _ => ⟨_, _, rfl, rfl⟩
theorem set6C : Statement .set6C := fun _ => ⟨_, _, rfl, rfl⟩
theorem set6D : Statement .set6D := fun _ => ⟨_, _, rfl, rfl⟩
theorem set6E : Statement .set6E := fun _ => ⟨_, _, rfl, rfl⟩
theorem set6H : Statement .set6H := fun _ => ⟨_, _, rfl, rfl⟩
theorem set6L : Statement .set6L := fun _ => ⟨_, _, rfl, rfl⟩
theorem set6AtHL : Statement .set6AtHL := fun _ => ⟨_, _, rfl, rfl⟩
theorem set6A : Statement .set6A := fun _ => ⟨_, _, rfl, rfl⟩
theorem set7B : Statement .set7B := fun _ => ⟨_, _, rfl, rfl⟩
theorem set7C : Statement .set7C := fun _ => ⟨_, _, rfl, rfl⟩
theorem set7D : Statement .set7D := fun _ => ⟨_, _, rfl, rfl⟩
theorem set7E : Statement .set7E := fun _ => ⟨_, _, rfl, rfl⟩
theorem set7H : Statement .set7H := fun _ => ⟨_, _, rfl, rfl⟩
theorem set7L : Statement .set7L := fun _ => ⟨_, _, rfl, rfl⟩
theorem set7AtHL : Statement .set7AtHL := fun _ => ⟨_, _, rfl, rfl⟩
theorem set7A : Statement .set7A := fun _ => ⟨_, _, rfl, rfl⟩

end Sys2Proof.Laws.Encoding
end

