-- ==== Sys2Proof/Laws/Pump.lean ====
section
/-! SUPPORT. The pump: what each device's part can change, that it clears no interrupt request, and which events and edges it takes. -/

namespace Sys2Proof.Machine

theorem State.requestIf_frame (s : State) (b : Bool) (k : IntKind) : ∃ g, s.requestIf b k = { s with ifr := s.ifr ||| g } := by
  cases b
  · exact ⟨0, by simp [State.requestIf]⟩
  · exact ⟨k.mask, rfl⟩

/-- What a video event or a line compare can change. -/
def VideoFrame (s t : State) : Prop :=
  ∃ g front back m, t = { s with ifr := s.ifr ||| g, video := { s.video with front := front, back := back, prevMatch := m } }

theorem VideoFrame.refl (s : State) : VideoFrame s s :=
  ⟨0, s.video.front, s.video.back, s.video.prevMatch, by simp⟩

theorem VideoFrame.trans {s t u : State} (h : VideoFrame s t) (k : VideoFrame t u) : VideoFrame s u := by
  obtain ⟨g, f, b, m, rfl⟩ := h
  obtain ⟨g', f', b', m', rfl⟩ := k
  exact ⟨g ||| g', f', b', m', by simp [BitVec.or_assoc]⟩

theorem VideoFrame.request {s t : State} (h : VideoFrame s t) (k : IntKind) : VideoFrame s (t.request k) :=
  h.trans ⟨k.mask, _, _, _, rfl⟩

theorem VideoFrame.requestIf {s t : State} (h : VideoFrame s t) (b : Bool) (k : IntKind) : VideoFrame s (t.requestIf b k) := by
  cases b
  · exact h
  · exact h.request k

theorem State.lineCompare_frame (s : State) (t : Nat) : VideoFrame s (s.lineCompare t) :=
  VideoFrame.requestIf
    ⟨0, s.video.front, s.video.back, decide (s.lineAt t = s.video.lyc.toNat), by simp⟩ _ _

theorem State.videoEvent_frame (s : State) (t : Nat) : VideoFrame s (s.videoEvent t) := by
  unfold State.videoEvent
  split
  · unfold State.lineStart
    refine VideoFrame.trans ?_ (State.lineCompare_frame _ t)
    split
    · exact VideoFrame.requestIf (VideoFrame.request ⟨0, s.video.back, s.video.front, s.video.prevMatch, by simp [Video.swapBuffers]⟩ _) _ _
    · split
      · exact (VideoFrame.refl s).requestIf _ _
      · exact .refl s
  · split
    · exact VideoFrame.requestIf ⟨0, s.video.front, (s.video.renderLine s.cfg s.colorMode (s.lineAt t)).back, s.video.prevMatch,
        by simp [Video.renderLine]⟩ _ _
    · exact .refl s

theorem State.videoEvents_frame (t fuel cur : Nat) (s : State) : VideoFrame s (State.videoEvents t fuel cur s) := by
  induction fuel generalizing cur s with
  | zero => exact .refl s
  | succ n ih =>
    simp only [State.videoEvents]
    split
    · exact .refl s
    · split
      · exact (s.videoEvent_frame _).trans (ih _ _)
      · exact .refl s

/-- The video part of a pump changes the framebuffers, the line-compare match and requests, nothing else. -/
theorem State.videoPump_frame (s : State) (t : Nat) : VideoFrame s (s.videoPump t) :=
  (State.videoEvents_frame _ _ _ s).trans (State.lineCompare_frame _ t)

/-- What the timer can change. -/
def TimerFrame (s t : State) : Prop :=
  ∃ g x n, t = { s with ifr := s.ifr ||| g, timer := { s.timer with tima := x, nextTick := n } }

theorem TimerFrame.refl (s : State) : TimerFrame s s := ⟨0, s.timer.tima, s.timer.nextTick, by simp⟩

theorem State.timerTick_frame (s : State) : TimerFrame s s.timerTick := by
  unfold State.timerTick
  obtain ⟨g, h⟩ := State.requestIf_frame { s with timer := s.timer.tick } (decide (s.timer.tima = 0xFF)) .timer
  rw [h]
  exact ⟨g, _, _, rfl⟩

theorem TimerFrame.trans {s t u : State} (h : TimerFrame s t) (k : TimerFrame t u) : TimerFrame s u := by
  obtain ⟨g, x, n, rfl⟩ := h
  obtain ⟨g', x', n', rfl⟩ := k
  exact ⟨g ||| g', x', n', by simp [BitVec.or_assoc]⟩

theorem State.timerTicks_frame (t fuel : Nat) (s : State) : TimerFrame s (State.timerTicks t fuel s) := by
  induction fuel generalizing s with
  | zero => exact .refl s
  | succ n ih =>
    simp only [State.timerTicks]
    split
    · exact s.timerTick_frame.trans (ih _)
    · exact .refl s

/-- The timer's part of a pump changes TIMA, the next tick and requests, nothing else. -/
theorem State.timerPump_frame (s : State) (t : Nat) : TimerFrame s (s.timerPump t) := State.timerTicks_frame _ _ s

/-- What the audio synthesizer's edges cannot change: its registers, power, `on` flags, trigger cycles and wave RAM. -/
def EdgeFrame (u w : Audio) : Prop :=
  ∃ l1 l2 l3 l4 e1 e2 e4 sw nz n1 n2 n3 n4 em,
    w = { u with
          ch1 := { u.ch1 with length := l1 }
          ch2 := { u.ch2 with length := l2 }
          ch3 := { u.ch3 with length := l3 }
          ch4 := { u.ch4 with length := l4 }
          env1 := e1
          env2 := e2
          env4 := e4
          sweep := sw
          noise := nz
          nextSample := n1
          nextLength := n2
          nextEnvelope := n3
          nextSweep := n4
          emitted := em }

theorem EdgeFrame.refl (u : Audio) : EdgeFrame u u := ⟨_, _, _, _, _, _, _, _, _, _, _, _, _, _, rfl⟩

theorem EdgeFrame.trans {u v w : Audio} (h : EdgeFrame u v) (k : EdgeFrame v w) : EdgeFrame u w := by
  obtain ⟨_, _, _, _, _, _, _, _, _, _, _, _, _, _, rfl⟩ := h
  obtain ⟨_, _, _, _, _, _, _, _, _, _, _, _, _, _, rfl⟩ := k
  exact ⟨_, _, _, _, _, _, _, _, _, _, _, _, _, _, rfl⟩

theorem Channel.lengthEdge_frame (c : Channel) (n : Byte) : ∃ l, c.lengthEdge n = { c with length := l } := by
  unfold Channel.lengthEdge
  split
  · exact ⟨_, rfl⟩
  · exact ⟨_, rfl⟩

theorem Audio.edge_frame (u : Audio) (cfg : Config) : EdgeFrame u (u.edge cfg) := by
  unfold Audio.edge
  simp only []
  split
  · exact ⟨_, _, _, _, _, _, _, _, _, _, _, _, _, _, rfl⟩
  · split
    · obtain ⟨a, ha⟩ := Channel.lengthEdge_frame u.ch1 u.nr14
      obtain ⟨b, hb⟩ := Channel.lengthEdge_frame u.ch2 u.nr24
      obtain ⟨c, hc⟩ := Channel.lengthEdge_frame u.ch3 u.nr34
      obtain ⟨d, hd⟩ := Channel.lengthEdge_frame u.ch4 u.nr44
      refine ⟨a, b, c, d, u.env1, u.env2, u.env4, u.sweep, u.noise, u.nextSample, u.nextEdge + 16384, u.nextEnvelope,
        u.nextSweep, u.emitted, ?_⟩
      simp only [Audio.lengthEdge, ha, hb, hc, hd]
    · split
      · exact ⟨_, _, _, _, _, _, _, _, _, _, _, _, _, _, rfl⟩
      · unfold Audio.sweepEdge
        simp only []
        split
        · exact ⟨_, _, _, _, _, _, _, _, _, _, _, _, _, _, rfl⟩
        · split
          · exact ⟨_, _, _, _, _, _, _, _, _, _, _, _, _, _, rfl⟩
          · exact ⟨_, _, _, _, _, _, _, _, _, _, _, _, _, _, rfl⟩

theorem Audio.edges_frame (cfg : Config) (t fuel : Nat) (u : Audio) : EdgeFrame u (Audio.edges cfg t fuel u) := by
  induction fuel generalizing u with
  | zero => exact .refl u
  | succ n ih =>
    simp only [Audio.edges]
    split
    · exact (u.edge_frame cfg).trans (ih _)
    · exact .refl u

/-- The audio part of a pump. -/
theorem Audio.pump_frame (u : Audio) (cfg : Config) (t : Nat) : EdgeFrame u (u.pump cfg t) := Audio.edges_frame cfg t _ u

/-- Everything a pump to cycle `t` can change. -/
theorem State.pump_frame (s : State) (t : Nat) :
    ∃ g front back m x n u d, EdgeFrame s.audio u ∧
      s.pump t = { s with
        ifr := s.ifr ||| g
        video := { s.video with front := front, back := back, prevMatch := m }
        timer := { s.timer with tima := x, nextTick := n }
        audio := u
        lastPump := t
        draw := d } := by
  obtain ⟨g, f, b, m, h1⟩ := s.videoPump_frame t
  obtain ⟨g', x, n, h2⟩ := (s.videoPump t).timerPump_frame t
  rw [h1] at h2
  simp only [BitVec.or_assoc] at h2
  refine ⟨g ||| g', f, b, m, x, n, s.audio.pump s.cfg t, (s.pump t).draw, Audio.pump_frame s.audio s.cfg t, ?_⟩
  have h3 : s.pump t =
      { (((s.videoPump t).timerPump t).audioPump t) with lastPump := t, draw := (s.pump t).draw } := rfl
  rw [h3, h1, h2]
  rfl

/-- A pump keeps the canonical form of every memory. -/
theorem State.pump_memoriesWf {s : State} (t : Nat) (h : s.MemoriesWf) : (s.pump t).MemoriesWf := by
  obtain ⟨g, f, b, m, x, n, u, d, ⟨_, _, _, _, _, _, _, _, _, _, _, _, _, _, hu⟩, hp⟩ := s.pump_frame t
  rw [hp, hu]
  obtain ⟨h1, h2, h3, h4, h5, h6, h7, h8, h9⟩ := h
  exact ⟨h1, h2, h3, h4, h5, h6, h7, h8, h9⟩

/-! The next events, and the edges and video events a pump takes. -/

/-- `edgeAfter n p t` is the least of `n`, `n + p`, … beyond `t`. -/
theorem edgeAfter_least (n p t : Nat) (hp : 0 < p) :
    t < edgeAfter n p t ∧ (∃ k, edgeAfter n p t = n + k * p) ∧ ∀ k, t < n + k * p → edgeAfter n p t ≤ n + k * p := by
  unfold edgeAfter
  split
  · exact ⟨by assumption, ⟨0, by simp⟩, fun k _ => Nat.le_add_right _ _⟩
  · have h1 : t - n < ((t - n) / p + 1) * p := by
      rw [Nat.add_mul, Nat.one_mul]
      exact Nat.lt_div_mul_add hp
    refine ⟨by omega, ⟨_, rfl⟩, fun k hk => ?_⟩
    have : (t - n) / p < k := by
      rw [Nat.div_lt_iff_lt_mul hp]
      omega
    exact Nat.add_le_add_left (Nat.mul_le_mul_right p this) n

theorem tacPeriod_eq (tac : BitVec 3) : tacPeriod tac = ([1024, 16, 64, 256] : List Nat).getD (tac.toNat % 4) 0 := by
  revert tac
  decide +kernel

theorem samplePeriod_pos (cfg : Config) : 0 < samplePeriod cfg := by
  unfold samplePeriod
  omega

/-- While the controller runs, the next video event is the least one after `t`. -/
theorem State.nextVideoEvent_least (s : State) (t : Nat) (hf : s.lcdFrozen = false) :
    ∃ n, s.nextVideoEvent t = some n ∧ t < n ∧ s.VideoEventAt n ∧ ∀ m, t < m → s.VideoEventAt m → n ≤ m := by
  unfold State.nextVideoEvent State.VideoEventAt
  have hl : ∀ x, s.lineAt x = (((x : Int) - s.video.videoBase) / 456 % 154).toNat := fun x => by
    simp [State.lineAt, hf, State.videoClock]
  have hd : ∀ x, s.dotAt x = (((x : Int) - s.video.videoBase) % 456).toNat := fun x => rfl
  simp only [hf, Bool.false_eq_true, if_false, true_and, hl, hd]
  generalize (s.video.videoBase : Int) = base
  split
  · exact ⟨_, rfl, by omega, by omega, fun m h1 h2 => by omega⟩
  · split
    · exact ⟨_, rfl, by omega, by omega, fun m h1 h2 => by omega⟩
    · split
      · exact ⟨_, rfl, by omega, by omega, fun m h1 h2 => by omega⟩
      · exact ⟨_, rfl, by omega, by omega, fun m h1 h2 => by omega⟩

/-- What the video timing reads is no part of what a video event changes. -/
theorem VideoFrame.timing {s t : State} (h : VideoFrame s t) :
    (∀ x, t.lineAt x = s.lineAt x) ∧ (∀ x, t.dotAt x = s.dotAt x) ∧ (∀ x, t.VideoEventAt x ↔ s.VideoEventAt x) ∧
      t.video.stat = s.video.stat ∧ t.video.lyc = s.video.lyc := by
  obtain ⟨g, f, b, m, rfl⟩ := h
  exact ⟨fun _ => rfl, fun _ => rfl, fun _ => Iff.rfl, rfl, rfl⟩

/-- Every video event between `cur` and `t` is handled by `videoEvents`, with enough fuel. -/
theorem State.videoEvents_reach (t n : Nat) (hn : n ≤ t) (fuel cur : Nat) (s : State) (he : s.VideoEventAt n) (hc : cur < n)
    (hf : t - cur ≤ fuel) :
    ∃ s', VideoFrame s s' ∧ VideoFrame (s'.videoEvent n) (State.videoEvents t fuel cur s) := by
  induction fuel generalizing cur s with
  | zero => omega
  | succ k ih =>
    obtain ⟨m, hm, hgt, _, hleast⟩ := s.nextVideoEvent_least cur he.1
    have hmn := hleast n hc he
    unfold State.videoEvents
    rw [hm]
    simp only []
    rw [if_pos (by omega)]
    by_cases heq : m = n
    · subst heq
      exact ⟨s, .refl s, State.videoEvents_frame _ _ _ _⟩
    · have hv := s.videoEvent_frame m
      obtain ⟨s', h1, h2⟩ := ih m (s.videoEvent m) ((hv.timing.2.2.1 n).2 he) (by omega) (by omega)
      exact ⟨s', hv.trans h1, h2⟩

/-- A bound on the edges still due up to cycle `t`. -/
def Audio.due (t : Nat) (u : Audio) : Nat :=
  (t + 1 - u.nextSample) + (t + 1 - u.nextLength) + (t + 1 - u.nextEnvelope) + (t + 1 - u.nextSweep)

/-- An edge moves exactly the timer it belongs to, by its period. -/
theorem Audio.edge_next (u : Audio) (cfg : Config) :
    let w := u.edge cfg
    (u.nextSample = u.nextEdge ∧ w.nextSample = u.nextSample + samplePeriod cfg ∧ w.nextLength = u.nextLength ∧
        w.nextEnvelope = u.nextEnvelope ∧ w.nextSweep = u.nextSweep) ∨
      (u.nextLength = u.nextEdge ∧ w.nextSample = u.nextSample ∧ w.nextLength = u.nextLength + 16384 ∧
        w.nextEnvelope = u.nextEnvelope ∧ w.nextSweep = u.nextSweep) ∨
      (u.nextEnvelope = u.nextEdge ∧ w.nextSample = u.nextSample ∧ w.nextLength = u.nextLength ∧
        w.nextEnvelope = u.nextEnvelope + 65536 ∧ w.nextSweep = u.nextSweep) ∨
      (u.nextSweep = u.nextEdge ∧ w.nextSample = u.nextSample ∧ w.nextLength = u.nextLength ∧ w.nextEnvelope = u.nextEnvelope ∧
        w.nextSweep = u.nextSweep + 32768) := by
  have hs : u.sweepEdge.nextSample = u.nextSample ∧ u.sweepEdge.nextLength = u.nextLength ∧
      u.sweepEdge.nextEnvelope = u.nextEnvelope := by
    unfold Audio.sweepEdge
    simp only []
    split
    · exact ⟨rfl, rfl, rfl⟩
    · split <;> exact ⟨rfl, rfl, rfl⟩
  have hm : u.nextEdge = u.nextSample ∨ u.nextEdge = u.nextLength ∨ u.nextEdge = u.nextEnvelope ∨ u.nextEdge = u.nextSweep := by
    unfold Audio.nextEdge
    omega
  unfold Audio.edge
  simp only []
  split
  · rename_i e
    exact .inl ⟨e, by rw [e], rfl, rfl, rfl⟩
  · split
    · rename_i e
      exact .inr (.inl ⟨e, rfl, by rw [e], rfl, rfl⟩)
    · split
      · rename_i e
        exact .inr (.inr (.inl ⟨e, rfl, rfl, by rw [e], rfl⟩))
      · have e : u.nextSweep = u.nextEdge := by omega
        exact .inr (.inr (.inr ⟨e, hs.1, hs.2.1, hs.2.2, by rw [e]⟩))

theorem Audio.edge_due (u : Audio) (cfg : Config) (t : Nat) (h : u.nextEdge ≤ t) : Audio.due t (u.edge cfg) < Audio.due t u := by
  have hp := samplePeriod_pos cfg
  unfold Audio.due
  rcases u.edge_next cfg with h | h | h | h <;> obtain ⟨h1, h2, h3, h4, h5⟩ := h <;> omega

/-- With enough fuel for the edges due, more of it changes nothing. -/
theorem Audio.edges_fuel (cfg : Config) (t : Nat) (n m : Nat) (u : Audio) (hn : Audio.due t u ≤ n) (hm : Audio.due t u ≤ m) :
    Audio.edges cfg t n u = Audio.edges cfg t m u := by
  have none (u : Audio) (k : Nat) (h : ¬u.nextEdge ≤ t) : Audio.edges cfg t k u = u := by
    cases k with
    | zero => rfl
    | succ k => simp only [Audio.edges, if_neg h]
  induction n generalizing m u with
  | zero =>
    have h : ¬u.nextEdge ≤ t := by
      unfold Audio.due at hn
      unfold Audio.nextEdge
      omega
    rw [none u m h]
    rfl
  | succ n ih =>
    by_cases hle : u.nextEdge ≤ t
    · have hd := u.edge_due cfg t hle
      cases m with
      | zero => omega
      | succ m =>
        simp only [Audio.edges, if_pos hle]
        exact ih m _ (by omega) (by omega)
    · rw [none u _ hle, none u _ hle]

/-- A pump takes one edge after another: with none due it changes nothing. -/
theorem Audio.pump_eq (u : Audio) (cfg : Config) (t : Nat) :
    u.pump cfg t = if u.nextEdge ≤ t then (u.edge cfg).pump cfg t else u := by
  have hd : ∀ v : Audio, Audio.due t v ≤ 4 * (t + 1) := fun v => by
    unfold Audio.due
    omega
  unfold Audio.pump
  rw [Audio.edges_fuel cfg t (4 * (t + 1)) (4 * (t + 1) + 1) u (hd u) (Nat.le_succ_of_le (hd u)), Audio.edges]

end Sys2Proof.Machine
end

