-- ==== Sys2Proof/Laws/Step.lean ====
section
/-! SUPPORT. The step, phase by phase (60_exceptions R810): which phase a state takes, and what each answers. -/

namespace Sys2Proof.Machine

/-- The bytes fetched are the bytes the bus reads, and they decode: the step executes the instruction they spell. -/
theorem State.executeNext_eq {s : State} {i : Instr} {bs : List Byte} (extra : Nat) (hd : decode bs = .ok (i, []))
    (hb : ∀ k (h : k < bs.length), s.memRead (s.regs.pc + BitVec.ofNat 16 k) = .ok bs[k]) :
    s.executeNext extra = (s.setPc (s.regs.pc + BitVec.ofNat 16 bs.length)).execute s.eiPending extra i := by
  obtain ⟨o, t, rfl, hl⟩ := decode_length hd
  simp only [State.executeNext, State.fetchInstr_ok (by simpa using hl) hb, hd]
  rfl

/-- A step with no FAULT, no breakpoint, not halted and nothing to service is the instruction at PC. -/
theorem step_eq_executeNext {s : State} (hf : s.fault = none) (hb : s.atBreakpoint = false) (hh : s.halted = false)
    (hk : s.serviceable = none) : step s = s.executeNext 0 := by
  have e : ({ s with halted := false } : State) = s := by rw [← hh]
  unfold step State.runCycle
  split
  · rename_i h
    rw [hf] at h
    contradiction
  · rw [if_neg (by simp [hb]), if_neg (by simp [hh]), e, State.serviceAndExecute, hk]

/-- A dispatch clears one bit of IF, pushes PC and goes to the vector; what it keeps of the rest. -/
theorem State.dispatch_plain (s : State) (k : IntKind) :
    (∃ t, s.dispatch k = .ok { t with ime := false, eiPending := false } ∧ Plain { s with ifr := s.ifr &&& ~~~k.mask } t) ∨
    ∃ e t, s.dispatch k = .err e t ∧ Plain { s with ifr := s.ifr &&& ~~~k.mask } t := by
  have h := State.push16_plain { s with ifr := s.ifr &&& ~~~k.mask } s.regs.pc
  simp only [State.dispatch]
  cases hp : State.push16 { s with ifr := s.ifr &&& ~~~k.mask } s.regs.pc with
  | ok t =>
    rw [hp] at h
    exact .inl ⟨t.setPc k.vector, rfl, Plain.trans h (.setPc t _)⟩
  | err e t =>
    rw [hp] at h
    exact .inr ⟨e, t, rfl, h⟩

/-- What a step does before it charges a cost or raises an error: no cycle passes, no device moves, and what the invariant
speaks of is kept. -/
structure Moves (s t : State) : Prop where
  setup : SameSetup s t
  cycles : t.cycles = s.cycles
  lastPump : t.lastPump = s.lastPump
  fault : t.fault = s.fault
  safe : BusSafe s t
  speed : s.colorMode = false → t.doubleSpeed = s.doubleSpeed
  delay : (s.cfg.eiDelay = false → s.eiPending = false) → t.cfg.eiDelay = false → t.eiPending = false
  lowNibble : s.regs.f &&& 0x0F = 0 → t.regs.f &&& 0x0F = 0

theorem Moves.trans {s t u : State} (h : Moves s t) (k : Moves t u) : Moves s u :=
  ⟨h.setup.trans k.setup, k.cycles.trans h.cycles, k.lastPump.trans h.lastPump, k.fault.trans h.fault, h.safe.trans k.safe,
    fun hc => (k.speed (h.setup.colorMode.trans hc)).trans (h.speed hc), fun hd => k.delay (h.delay hd), k.lowNibble ∘ h.lowNibble⟩

theorem Plain.moves {s t : State} (h : Plain s t) : Moves s t :=
  ⟨h.keeps.setup, h.keeps.cycles, h.keeps.lastPump, h.fault, h.safe, fun _ => h.doubleSpeed,
    fun hd hc => h.eiPending.trans (hd (h.keeps.setup.cfg ▸ hc)), h.lowNibble⟩

/-- Other control bits only, DOUBLE_SPEED and SPEED_PREP in color mode only. -/
theorem Moves.control (s : State) (ime eiPending halted doubleSpeed speedPrep : Bool)
    (hs : s.colorMode = false → doubleSpeed = s.doubleSpeed ∧ speedPrep = s.speedPrep)
    (hd : s.cfg.eiDelay = false → s.eiPending = false → eiPending = false) :
    Moves s { s with
      ime := ime, eiPending := eiPending, halted := halted, doubleSpeed := doubleSpeed, speedPrep := speedPrep } :=
  ⟨⟨rfl, rfl, rfl, rfl, rfl, rfl, rfl, rfl⟩, rfl, rfl, rfl,
    ⟨rfl, rfl, fun ⟨h1, h2, h3, h4, h5, h6, h7, h8, h9⟩ => ⟨h1, h2, h3, h4, h5, h6, h7, h8, h9⟩, fun hc => (hs hc).2, id, id⟩,
    fun hc => (hs hc).1, fun h hc => hd hc (h hc), id⟩

/-- The debugger's fields only. -/
theorem Moves.debug (s : State) (b : List Word) (k : List IntKind) (d : Bool) (r : StepResult) :
    Moves s { s with breakpoints := b, intBreakpoints := k, debugHalt := d, stepResult := r } :=
  ⟨⟨rfl, rfl, rfl, rfl, rfl, rfl, rfl, rfl⟩, rfl, rfl, rfl,
    ⟨rfl, rfl, fun ⟨h1, h2, h3, h4, h5, h6, h7, h8, h9⟩ => ⟨h1, h2, h3, h4, h5, h6, h7, h8, h9⟩, fun _ => rfl, id, id⟩,
    fun _ => rfl, fun h hc => h hc, id⟩

/-- A request bit cleared. -/
theorem Moves.ifr (s : State) (f : BitVec 5) : Moves s { s with ifr := f } :=
  ⟨⟨rfl, rfl, rfl, rfl, rfl, rfl, rfl, rfl⟩, rfl, rfl, rfl,
    ⟨rfl, rfl, fun ⟨h1, h2, h3, h4, h5, h6, h7, h8, h9⟩ => ⟨h1, h2, h3, h4, h5, h6, h7, h8, h9⟩, fun _ => rfl, id, id⟩,
    fun _ => rfl, fun h hc => h hc, id⟩

/-- What an instruction does, in these terms: it completes in a state it `Moves` to, or raises an error there. -/
theorem exec_moves (i : Instr) (s : State) : ∃ t, Moves s t ∧ (exec i s = .next t ∨ ∃ e, exec i s = .next (t.raise e)) := by
  cases hc : Control i with
  | false =>
    obtain ⟨t, h, k⟩ := exec_plain i s hc
    exact ⟨t, h.moves, k⟩
  | true =>
    unfold Control at hc
    split at hc
    · exact ⟨_, .control s false false s.halted _ _ (fun _ => ⟨rfl, rfl⟩) (fun _ _ => rfl), .inl rfl⟩
    · show ∃ t, Moves s t ∧ (enable s = .next t ∨ ∃ e, enable s = .next (t.raise e))
      unfold enable done
      cases he : s.cfg.eiDelay with
      | true =>
        exact ⟨_, .control s s.ime true s.halted _ _ (fun _ => ⟨rfl, rfl⟩) (fun h => absurd (he.symm.trans h) (by decide)), .inl rfl⟩
      | false => exact ⟨_, .control s true s.eiPending s.halted _ _ (fun _ => ⟨rfl, rfl⟩) (fun _ h => h), .inl rfl⟩
    · obtain ⟨t, e, h, k⟩ | ⟨t, h, k⟩ := returnEnable_eq s
      · exact ⟨t, h.moves, .inr ⟨e, k⟩⟩
      · exact ⟨_, h.moves.trans (.control t true false t.halted _ _ (fun _ => ⟨rfl, rfl⟩) (fun _ _ => rfl)), .inl k⟩
    · exact ⟨_, .control s s.ime s.eiPending true _ _ (fun _ => ⟨rfl, rfl⟩) (fun _ h => h), .inl rfl⟩
    · show ∃ t, Moves s t ∧ (speedSwitch s = .next t ∨ ∃ e, speedSwitch s = .next (t.raise e))
      unfold speedSwitch
      split
      · rename_i hs
        simp only [Bool.and_eq_true] at hs
        exact ⟨_, .control s s.ime s.eiPending s.halted _ _ (fun h => absurd (h.symm.trans hs.1) (by decide)) (fun _ h => h), .inl rfl⟩
      · exact ⟨s, (Plain.refl s).moves, .inr ⟨_, rfl⟩⟩
    · cases hc

/-- How a step ends once it has moved: with a raised error, or with a cost charged. -/
def Ends (s : State) (r : Result) : Prop :=
  ∃ t, Moves s t ∧ ((∃ e, r = .next (t.raise e)) ∨ ∃ c r', s.fault = none ∧ r = .next (t.charge c r'))

theorem Ends.after {s t : State} {r : Result} (h : Moves s t) (k : Ends t r) : Ends s r := by
  obtain ⟨u, hu, k⟩ := k
  refine ⟨u, h.trans hu, k.imp id ?_⟩
  rintro ⟨c, r', hf, k⟩
  exact ⟨c, r', h.fault ▸ hf, k⟩

theorem State.settleEi_moves (s : State) (ei : Bool) : Moves s (s.settleEi ei) := by
  unfold State.settleEi
  split
  · exact .control s true false s.halted _ _ (fun _ => ⟨rfl, rfl⟩) (fun _ _ => rfl)
  · exact (Plain.refl s).moves

theorem State.execute_ends (s : State) (ei : Bool) (extra : Nat) (i : Instr) (hf : s.fault = none) :
    Ends s (s.execute ei extra i) := by
  obtain ⟨t, h, k | ⟨e, k⟩⟩ := exec_moves i s
  · refine ⟨_, h.trans (t.settleEi_moves ei), .inr ⟨extra + s.cost i, .ok, hf, ?_⟩⟩
    simp only [State.execute, k, h.fault, hf, Option.isSome_none, Bool.false_eq_true, if_false]
  · refine ⟨t, h, .inl ⟨e, ?_⟩⟩
    simp only [State.execute, k]
    rfl

theorem State.executeNext_ends (s : State) (extra : Nat) (hf : s.fault = none) : Ends s (s.executeNext extra) := by
  have h := s.fetchInstr_plain
  unfold State.executeNext
  cases hfe : s.fetchInstr with
  | err e t =>
    rw [hfe] at h
    exact ⟨t, h.1.moves, .inl ⟨e, rfl⟩⟩
  | ok bs t =>
    rw [hfe] at h
    simp only []
    split
    · exact .after h.1.moves (t.execute_ends _ _ _ (h.1.fault.trans hf))
    · exact ⟨t, h.1.moves, .inl ⟨_, rfl⟩⟩

theorem State.serviceAndExecute_ends (s : State) (hf : s.fault = none) : Ends s s.serviceAndExecute := by
  unfold State.serviceAndExecute
  split
  · exact s.executeNext_ends 0 hf
  · rename_i k _
    obtain ⟨t, h, hp⟩ | ⟨e, t, h, hp⟩ := s.dispatch_plain k
    · rw [h]
      have hm : Moves s { t with ime := false, eiPending := false } :=
        (Moves.ifr s _).trans (hp.moves.trans (.control t false false t.halted _ _ (fun _ => ⟨rfl, rfl⟩) (fun _ _ => rfl)))
      simp only []
      split
      · exact ⟨_, hm.trans (.debug _ _ _ _ _), .inr ⟨_, _, hf, rfl⟩⟩
      · exact .after hm (State.executeNext_ends _ _ (hm.fault.trans hf))
    · rw [h]
      exact ⟨t, (Moves.ifr s _).trans hp.moves, .inl ⟨e, rfl⟩⟩

/-- Everything a step can do: at a FAULT it has none; else it stops at a breakpoint, passes time while halted, raises an error
in a state it moved to, or charges a cost there. -/
theorem step_cases (s : State) :
    (∃ e, s.fault = some e ∧ step s = .fault (.faulted e)) ∨
    s.fault = none ∧ (step s = .next s.takeBreakpoint ∨ (s.halted = true ∧ step s = .next s.fastForward) ∨ Ends s (step s)) := by
  unfold step State.runCycle
  split
  · rename_i e hf
    exact .inl ⟨e, hf, rfl⟩
  · rename_i hf
    refine .inr ⟨hf, ?_⟩
    split
    · exact .inl rfl
    · split
      · rename_i h
        simp only [Bool.and_eq_true] at h
        exact .inr (.inl ⟨h.1, rfl⟩)
      · exact .inr (.inr (.after (.control s s.ime s.eiPending false _ _ (fun _ => ⟨rfl, rfl⟩) (fun _ h => h))
          (State.serviceAndExecute_ends _ hf)))

end Sys2Proof.Machine
end

