-- ==== Sys2Proof/Tests/Slice0.lean ====
section
/-! SUPPORT. The model's own tests: the check of `wellFormed`, every row's word read as the opcode table gives it, vectors of
95_test_vectors (their expected results are the spec's), and for each statement with hypotheses a state that meets them. -/

set_option Elab.async false

namespace Sys2Proof.Tests

open Sys2Proof Sys2Proof.Machine

/-! ## Well-formedness -/

/-- 30_encoding R340: a byte that has an instruction is no `invalid`. -/
theorem test_wellFormed_refuses : (Instr.invalid 0x00).wellFormed = false ∧ (Instr.invalid 0xD4).wellFormed = false := by decide

theorem test_wellFormed_accepts : (Instr.invalid 0xD3).wellFormed = true ∧ (Instr.invalid 0xFD).wellFormed = true := by decide

/-! ## Words, from spec/opcode_table.json -/

/-- The bytes decode to the instruction and nothing is left over. -/
def reads (w : List Byte × Instr) : Bool :=
  match decode w.1 with
  | .ok (i, []) => decide (i = w.2)
  | _ => false

/-- A word written out bit by bit from the encodings of 30_encoding R301 to R334, one or more for each family. -/
theorem test_bits :
    [([0b01_000_001], .ldBC), ([0b01_110_101], .ldAtHLL), ([0b00_01_0001, 0b00110100, 0b00010010], .ldDEImm16 0x1234),
     ([0b11_11_0101], .pushAF), ([0b10_001_110], .adcAAtHL), ([0b00_111_101], .decA), ([0b00_10_1011], .decHL),
     ([0b11101000, 0b10000000], .addSPE8 0x80), ([0b11001011, 0b00_011_010], .rrD), ([0b11001011, 0b10_101_110], .res5AtHL),
     ([0b110_11_010, 0b00000001, 0b11000000], .jpCA16 0xC001), ([0b11_010_111], .rst10), ([0b01110110], .halt),
     ([0b11111011], .ei), ([0b11111100], .invalid 0xFC)].all reads = true := by decide

/-- A byte too few is refused by name, whatever the length missing (R302). -/
theorem test_truncated : decode [] = .error .truncated ∧ decode [0xCB] = .error .truncated ∧ decode [0x01, 0x34] = .error .truncated ∧
    decode [0x3E] = .error .truncated := by decide

/-- A row's word is numbered from its first byte as the most significant (log 1). -/
theorem test_tableWord : decodeTableWord 24 0x21_34_12 = some (.ldHLImm16 0x1234) ∧ decodeTableWord 16 0xCB_7C = some .bit7H ∧
    decodeTableWord 8 0xD3 = some (.invalid 0xD3) := by decide

theorem test_words_0x :
    [([0x00], .nop), ([0x01, 0x34, 0x12], .ldBCImm16 0x1234), ([0x02], .ldAtBCA), ([0x03], .incBC), ([0x04], .incB),
     ([0x05], .decB), ([0x06, 0x9C], .ldBImm8 0x9C), ([0x07], .rlca), ([0x08, 0x34, 0x12], .ldAtA16SP 0x1234),
     ([0x09], .addHLBC), ([0x0A], .ldAAtBC), ([0x0B], .decBC), ([0x0C], .incC), ([0x0D], .decC),
     ([0x0E, 0x9C], .ldCImm8 0x9C), ([0x0F], .rrca)].all reads = true := by decide

theorem test_words_1x :
    [([0x10, 0x9C], .stop 0x9C), ([0x11, 0x34, 0x12], .ldDEImm16 0x1234), ([0x12], .ldAtDEA), ([0x13], .incDE),
     ([0x14], .incD), ([0x15], .decD), ([0x16, 0x9C], .ldDImm8 0x9C), ([0x17], .rla), ([0x18, 0x9C], .jrE8 0x9C),
     ([0x19], .addHLDE), ([0x1A], .ldAAtDE), ([0x1B], .decDE), ([0x1C], .incE), ([0x1D], .decE),
     ([0x1E, 0x9C], .ldEImm8 0x9C), ([0x1F], .rra)].all reads = true := by decide

theorem test_words_2x :
    [([0x20, 0x9C], .jrNZE8 0x9C), ([0x21, 0x34, 0x12], .ldHLImm16 0x1234), ([0x22], .ldAtHLIncA), ([0x23], .incHL),
     ([0x24], .incH), ([0x25], .decH), ([0x26, 0x9C], .ldHImm8 0x9C), ([0x27], .daa), ([0x28, 0x9C], .jrZE8 0x9C),
     ([0x29], .addHLHL), ([0x2A], .ldAAtHLInc), ([0x2B], .decHL), ([0x2C], .incL), ([0x2D], .decL),
     ([0x2E, 0x9C], .ldLImm8 0x9C), ([0x2F], .cpl)].all reads = true := by decide

theorem test_words_3x :
    [([0x30, 0x9C], .jrNCE8 0x9C), ([0x31, 0x34, 0x12], .ldSPImm16 0x1234), ([0x32], .ldAtHLDecA), ([0x33], .incSP),
     ([0x34], .incAtHL), ([0x35], .decAtHL), ([0x36, 0x9C], .ldAtHLImm8 0x9C), ([0x37], .scf), ([0x38, 0x9C], .jrCE8 0x9C),
     ([0x39], .addHLSP), ([0x3A], .ldAAtHLDec), ([0x3B], .decSP), ([0x3C], .incA), ([0x3D], .decA),
     ([0x3E, 0x9C], .ldAImm8 0x9C), ([0x3F], .ccf)].all reads = true := by decide

theorem test_words_4x :
    [([0x40], .ldBB), ([0x41], .ldBC), ([0x42], .ldBD), ([0x43], .ldBE), ([0x44], .ldBH), ([0x45], .ldBL), ([0x46], .ldBAtHL),
     ([0x47], .ldBA), ([0x48], .ldCB), ([0x49], .ldCC), ([0x4A], .ldCD), ([0x4B], .ldCE), ([0x4C], .ldCH), ([0x4D], .ldCL),
     ([0x4E], .ldCAtHL), ([0x4F], .ldCA)].all reads = true := by decide

theorem test_words_5x :
    [([0x50], .ldDB), ([0x51], .ldDC), ([0x52], .ldDD), ([0x53], .ldDE), ([0x54], .ldDH), ([0x55], .ldDL), ([0x56], .ldDAtHL),
     ([0x57], .ldDA), ([0x58], .ldEB), ([0x59], .ldEC), ([0x5A], .ldED), ([0x5B], .ldEE), ([0x5C], .ldEH), ([0x5D], .ldEL),
     ([0x5E], .ldEAtHL), ([0x5F], .ldEA)].all reads = true := by decide

theorem test_words_6x :
    [([0x60], .ldHB), ([0x61], .ldHC), ([0x62], .ldHD), ([0x63], .ldHE), ([0x64], .ldHH), ([0x65], .ldHL), ([0x66], .ldHAtHL),
     ([0x67], .ldHA), ([0x68], .ldLB), ([0x69], .ldLC), ([0x6A], .ldLD), ([0x6B], .ldLE), ([0x6C], .ldLH), ([0x6D], .ldLL),
     ([0x6E], .ldLAtHL), ([0x6F], .ldLA)].all reads = true := by decide

theorem test_words_7x :
    [([0x70], .ldAtHLB), ([0x71], .ldAtHLC), ([0x72], .ldAtHLD), ([0x73], .ldAtHLE), ([0x74], .ldAtHLH), ([0x75], .ldAtHLL),
     ([0x76], .halt), ([0x77], .ldAtHLA), ([0x78], .ldAB), ([0x79], .ldAC), ([0x7A], .ldAD), ([0x7B], .ldAE), ([0x7C], .ldAH),
     ([0x7D], .ldAL), ([0x7E], .ldAAtHL), ([0x7F], .ldAA)].all reads = true := by decide

theorem test_words_8x :
    [([0x80], .addAB), ([0x81], .addAC), ([0x82], .addAD), ([0x83], .addAE), ([0x84], .addAH), ([0x85], .addAL),
     ([0x86], .addAAtHL), ([0x87], .addAA), ([0x88], .adcAB), ([0x89], .adcAC), ([0x8A], .adcAD), ([0x8B], .adcAE),
     ([0x8C], .adcAH), ([0x8D], .adcAL), ([0x8E], .adcAAtHL), ([0x8F], .adcAA)].all reads = true := by decide

theorem test_words_9x :
    [([0x90], .subAB), ([0x91], .subAC), ([0x92], .subAD), ([0x93], .subAE), ([0x94], .subAH), ([0x95], .subAL),
     ([0x96], .subAAtHL), ([0x97], .subAA), ([0x98], .sbcAB), ([0x99], .sbcAC), ([0x9A], .sbcAD), ([0x9B], .sbcAE),
     ([0x9C], .sbcAH), ([0x9D], .sbcAL), ([0x9E], .sbcAAtHL), ([0x9F], .sbcAA)].all reads = true := by decide

theorem test_words_Ax :
    [([0xA0], .andAB), ([0xA1], .andAC), ([0xA2], .andAD), ([0xA3], .andAE), ([0xA4], .andAH), ([0xA5], .andAL),
     ([0xA6], .andAAtHL), ([0xA7], .andAA), ([0xA8], .xorAB), ([0xA9], .xorAC), ([0xAA], .xorAD), ([0xAB], .xorAE),
     ([0xAC], .xorAH), ([0xAD], .xorAL), ([0xAE], .xorAAtHL), ([0xAF], .xorAA)].all reads = true := by decide

theorem test_words_Bx :
    [([0xB0], .orAB), ([0xB1], .orAC), ([0xB2], .orAD), ([0xB3], .orAE), ([0xB4], .orAH), ([0xB5], .orAL), ([0xB6], .orAAtHL),
     ([0xB7], .orAA), ([0xB8], .cpAB), ([0xB9], .cpAC), ([0xBA], .cpAD), ([0xBB], .cpAE), ([0xBC], .cpAH), ([0xBD], .cpAL),
     ([0xBE], .cpAAtHL), ([0xBF], .cpAA)].all reads = true := by decide

theorem test_words_Cx :
    [([0xC0], .retNZ), ([0xC1], .popBC), ([0xC2, 0x34, 0x12], .jpNZA16 0x1234), ([0xC3, 0x34, 0x12], .jpA16 0x1234),
     ([0xC4, 0x34, 0x12], .callNZA16 0x1234), ([0xC5], .pushBC), ([0xC6, 0x9C], .addAImm8 0x9C), ([0xC7], .rst00),
     ([0xC8], .retZ), ([0xC9], .ret), ([0xCA, 0x34, 0x12], .jpZA16 0x1234), ([0xCC, 0x34, 0x12], .callZA16 0x1234),
     ([0xCD, 0x34, 0x12], .callA16 0x1234), ([0xCE, 0x9C], .adcAImm8 0x9C), ([0xCF], .rst08)].all reads = true := by decide

theorem test_words_Dx :
    [([0xD0], .retNC), ([0xD1], .popDE), ([0xD2, 0x34, 0x12], .jpNCA16 0x1234), ([0xD3], .invalid 0xD3),
     ([0xD4, 0x34, 0x12], .callNCA16 0x1234), ([0xD5], .pushDE), ([0xD6, 0x9C], .subAImm8 0x9C), ([0xD7], .rst10),
     ([0xD8], .retC), ([0xD9], .reti), ([0xDA, 0x34, 0x12], .jpCA16 0x1234), ([0xDB], .invalid 0xDB),
     ([0xDC, 0x34, 0x12], .callCA16 0x1234), ([0xDD], .invalid 0xDD), ([0xDE, 0x9C], .sbcAImm8 0x9C), ([0xDF], .rst18)].all reads = true := by decide

theorem test_words_Ex :
    [([0xE0, 0x9C], .ldhAtA8A 0x9C), ([0xE1], .popHL), ([0xE2], .ldAtCA), ([0xE3], .invalid 0xE3), ([0xE4], .invalid 0xE4),
     ([0xE5], .pushHL), ([0xE6, 0x9C], .andAImm8 0x9C), ([0xE7], .rst20), ([0xE8, 0x9C], .addSPE8 0x9C), ([0xE9], .jpHL),
     ([0xEA, 0x34, 0x12], .ldAtA16A 0x1234), ([0xEB], .invalid 0xEB), ([0xEC], .invalid 0xEC), ([0xED], .invalid 0xED),
     ([0xEE, 0x9C], .xorAImm8 0x9C), ([0xEF], .rst28)].all reads = true := by decide

theorem test_words_Fx :
    [([0xF0, 0x9C], .ldhAAtA8 0x9C), ([0xF1], .popAF), ([0xF2], .ldAAtC), ([0xF3], .di), ([0xF4], .invalid 0xF4),
     ([0xF5], .pushAF), ([0xF6, 0x9C], .orAImm8 0x9C), ([0xF7], .rst30), ([0xF8, 0x9C], .ldHLSPE8 0x9C), ([0xF9], .ldSPHL),
     ([0xFA, 0x34, 0x12], .ldAAtA16 0x1234), ([0xFB], .ei), ([0xFC], .invalid 0xFC), ([0xFD], .invalid 0xFD),
     ([0xFE, 0x9C], .cpAImm8 0x9C), ([0xFF], .rst38)].all reads = true := by decide

theorem test_words_cb_0x :
    [([0xCB, 0x00], .rlcB), ([0xCB, 0x01], .rlcC), ([0xCB, 0x02], .rlcD), ([0xCB, 0x03], .rlcE), ([0xCB, 0x04], .rlcH),
     ([0xCB, 0x05], .rlcL), ([0xCB, 0x06], .rlcAtHL), ([0xCB, 0x07], .rlcA), ([0xCB, 0x08], .rrcB), ([0xCB, 0x09], .rrcC),
     ([0xCB, 0x0A], .rrcD), ([0xCB, 0x0B], .rrcE), ([0xCB, 0x0C], .rrcH), ([0xCB, 0x0D], .rrcL), ([0xCB, 0x0E], .rrcAtHL),
     ([0xCB, 0x0F], .rrcA)].all reads = true := by decide

theorem test_words_cb_1x :
    [([0xCB, 0x10], .rlB), ([0xCB, 0x11], .rlC), ([0xCB, 0x12], .rlD), ([0xCB, 0x13], .rlE), ([0xCB, 0x14], .rlH),
     ([0xCB, 0x15], .rlL), ([0xCB, 0x16], .rlAtHL), ([0xCB, 0x17], .rlA), ([0xCB, 0x18], .rrB), ([0xCB, 0x19], .rrC),
     ([0xCB, 0x1A], .rrD), ([0xCB, 0x1B], .rrE), ([0xCB, 0x1C], .rrH), ([0xCB, 0x1D], .rrL), ([0xCB, 0x1E], .rrAtHL),
     ([0xCB, 0x1F], .rrA)].all reads = true := by decide

theorem test_words_cb_2x :
    [([0xCB, 0x20], .slaB), ([0xCB, 0x21], .slaC), ([0xCB, 0x22], .slaD), ([0xCB, 0x23], .slaE), ([0xCB, 0x24], .slaH),
     ([0xCB, 0x25], .slaL), ([0xCB, 0x26], .slaAtHL), ([0xCB, 0x27], .slaA), ([0xCB, 0x28], .sraB), ([0xCB, 0x29], .sraC),
     ([0xCB, 0x2A], .sraD), ([0xCB, 0x2B], .sraE), ([0xCB, 0x2C], .sraH), ([0xCB, 0x2D], .sraL), ([0xCB, 0x2E], .sraAtHL),
     ([0xCB, 0x2F], .sraA)].all reads = true := by decide

theorem test_words_cb_3x :
    [([0xCB, 0x30], .swapB), ([0xCB, 0x31], .swapC), ([0xCB, 0x32], .swapD), ([0xCB, 0x33], .swapE), ([0xCB, 0x34], .swapH),
     ([0xCB, 0x35], .swapL), ([0xCB, 0x36], .swapAtHL), ([0xCB, 0x37], .swapA), ([0xCB, 0x38], .srlB), ([0xCB, 0x39], .srlC),
     ([0xCB, 0x3A], .srlD), ([0xCB, 0x3B], .srlE), ([0xCB, 0x3C], .srlH), ([0xCB, 0x3D], .srlL), ([0xCB, 0x3E], .srlAtHL),
     ([0xCB, 0x3F], .srlA)].all reads = true := by decide

theorem test_words_cb_4x :
    [([0xCB, 0x40], .bit0B), ([0xCB, 0x41], .bit0C), ([0xCB, 0x42], .bit0D), ([0xCB, 0x43], .bit0E), ([0xCB, 0x44], .bit0H),
     ([0xCB, 0x45], .bit0L), ([0xCB, 0x46], .bit0AtHL), ([0xCB, 0x47], .bit0A), ([0xCB, 0x48], .bit1B),
     ([0xCB, 0x49], .bit1C), ([0xCB, 0x4A], .bit1D), ([0xCB, 0x4B], .bit1E), ([0xCB, 0x4C], .bit1H), ([0xCB, 0x4D], .bit1L),
     ([0xCB, 0x4E], .bit1AtHL), ([0xCB, 0x4F], .bit1A)].all reads = true := by decide

theorem test_words_cb_5x :
    [([0xCB, 0x50], .bit2B), ([0xCB, 0x51], .bit2C), ([0xCB, 0x52], .bit2D), ([0xCB, 0x53], .bit2E), ([0xCB, 0x54], .bit2H),
     ([0xCB, 0x55], .bit2L), ([0xCB, 0x56], .bit2AtHL), ([0xCB, 0x57], .bit2A), ([0xCB, 0x58], .bit3B),
     ([0xCB, 0x59], .bit3C), ([0xCB, 0x5A], .bit3D), ([0xCB, 0x5B], .bit3E), ([0xCB, 0x5C], .bit3H), ([0xCB, 0x5D], .bit3L),
     ([0xCB, 0x5E], .bit3AtHL), ([0xCB, 0x5F], .bit3A)].all reads = true := by decide

theorem test_words_cb_6x :
    [([0xCB, 0x60], .bit4B), ([0xCB, 0x61], .bit4C), ([0xCB, 0x62], .bit4D), ([0xCB, 0x63], .bit4E), ([0xCB, 0x64], .bit4H),
     ([0xCB, 0x65], .bit4L), ([0xCB, 0x66], .bit4AtHL), ([0xCB, 0x67], .bit4A), ([0xCB, 0x68], .bit5B),
     ([0xCB, 0x69], .bit5C), ([0xCB, 0x6A], .bit5D), ([0xCB, 0x6B], .bit5E), ([0xCB, 0x6C], .bit5H), ([0xCB, 0x6D], .bit5L),
     ([0xCB, 0x6E], .bit5AtHL), ([0xCB, 0x6F], .bit5A)].all reads = true := by decide

theorem test_words_cb_7x :
    [([0xCB, 0x70], .bit6B), ([0xCB, 0x71], .bit6C), ([0xCB, 0x72], .bit6D), ([0xCB, 0x73], .bit6E), ([0xCB, 0x74], .bit6H),
     ([0xCB, 0x75], .bit6L), ([0xCB, 0x76], .bit6AtHL), ([0xCB, 0x77], .bit6A), ([0xCB, 0x78], .bit7B),
     ([0xCB, 0x79], .bit7C), ([0xCB, 0x7A], .bit7D), ([0xCB, 0x7B], .bit7E), ([0xCB, 0x7C], .bit7H), ([0xCB, 0x7D], .bit7L),
     ([0xCB, 0x7E], .bit7AtHL), ([0xCB, 0x7F], .bit7A)].all reads = true := by decide

theorem test_words_cb_8x :
    [([0xCB, 0x80], .res0B), ([0xCB, 0x81], .res0C), ([0xCB, 0x82], .res0D), ([0xCB, 0x83], .res0E), ([0xCB, 0x84], .res0H),
     ([0xCB, 0x85], .res0L), ([0xCB, 0x86], .res0AtHL), ([0xCB, 0x87], .res0A), ([0xCB, 0x88], .res1B),
     ([0xCB, 0x89], .res1C), ([0xCB, 0x8A], .res1D), ([0xCB, 0x8B], .res1E), ([0xCB, 0x8C], .res1H), ([0xCB, 0x8D], .res1L),
     ([0xCB, 0x8E], .res1AtHL), ([0xCB, 0x8F], .res1A)].all reads = true := by decide

theorem test_words_cb_9x :
    [([0xCB, 0x90], .res2B), ([0xCB, 0x91], .res2C), ([0xCB, 0x92], .res2D), ([0xCB, 0x93], .res2E), ([0xCB, 0x94], .res2H),
     ([0xCB, 0x95], .res2L), ([0xCB, 0x96], .res2AtHL), ([0xCB, 0x97], .res2A), ([0xCB, 0x98], .res3B),
     ([0xCB, 0x99], .res3C), ([0xCB, 0x9A], .res3D), ([0xCB, 0x9B], .res3E), ([0xCB, 0x9C], .res3H), ([0xCB, 0x9D], .res3L),
     ([0xCB, 0x9E], .res3AtHL), ([0xCB, 0x9F], .res3A)].all reads = true := by decide

theorem test_words_cb_Ax :
    [([0xCB, 0xA0], .res4B), ([0xCB, 0xA1], .res4C), ([0xCB, 0xA2], .res4D), ([0xCB, 0xA3], .res4E), ([0xCB, 0xA4], .res4H),
     ([0xCB, 0xA5], .res4L), ([0xCB, 0xA6], .res4AtHL), ([0xCB, 0xA7], .res4A), ([0xCB, 0xA8], .res5B),
     ([0xCB, 0xA9], .res5C), ([0xCB, 0xAA], .res5D), ([0xCB, 0xAB], .res5E), ([0xCB, 0xAC], .res5H), ([0xCB, 0xAD], .res5L),
     ([0xCB, 0xAE], .res5AtHL), ([0xCB, 0xAF], .res5A)].all reads = true := by decide

theorem test_words_cb_Bx :
    [([0xCB, 0xB0], .res6B), ([0xCB, 0xB1], .res6C), ([0xCB, 0xB2], .res6D), ([0xCB, 0xB3], .res6E), ([0xCB, 0xB4], .res6H),
     ([0xCB, 0xB5], .res6L), ([0xCB, 0xB6], .res6AtHL), ([0xCB, 0xB7], .res6A), ([0xCB, 0xB8], .res7B),
     ([0xCB, 0xB9], .res7C), ([0xCB, 0xBA], .res7D), ([0xCB, 0xBB], .res7E), ([0xCB, 0xBC], .res7H), ([0xCB, 0xBD], .res7L),
     ([0xCB, 0xBE], .res7AtHL), ([0xCB, 0xBF], .res7A)].all reads = true := by decide

theorem test_words_cb_Cx :
    [([0xCB, 0xC0], .set0B), ([0xCB, 0xC1], .set0C), ([0xCB, 0xC2], .set0D), ([0xCB, 0xC3], .set0E), ([0xCB, 0xC4], .set0H),
     ([0xCB, 0xC5], .set0L), ([0xCB, 0xC6], .set0AtHL), ([0xCB, 0xC7], .set0A), ([0xCB, 0xC8], .set1B),
     ([0xCB, 0xC9], .set1C), ([0xCB, 0xCA], .set1D), ([0xCB, 0xCB], .set1E), ([0xCB, 0xCC], .set1H), ([0xCB, 0xCD], .set1L),
     ([0xCB, 0xCE], .set1AtHL), ([0xCB, 0xCF], .set1A)].all reads = true := by decide

theorem test_words_cb_Dx :
    [([0xCB, 0xD0], .set2B), ([0xCB, 0xD1], .set2C), ([0xCB, 0xD2], .set2D), ([0xCB, 0xD3], .set2E), ([0xCB, 0xD4], .set2H),
     ([0xCB, 0xD5], .set2L), ([0xCB, 0xD6], .set2AtHL), ([0xCB, 0xD7], .set2A), ([0xCB, 0xD8], .set3B),
     ([0xCB, 0xD9], .set3C), ([0xCB, 0xDA], .set3D), ([0xCB, 0xDB], .set3E), ([0xCB, 0xDC], .set3H), ([0xCB, 0xDD], .set3L),
     ([0xCB, 0xDE], .set3AtHL), ([0xCB, 0xDF], .set3A)].all reads = true := by decide

theorem test_words_cb_Ex :
    [([0xCB, 0xE0], .set4B), ([0xCB, 0xE1], .set4C), ([0xCB, 0xE2], .set4D), ([0xCB, 0xE3], .set4E), ([0xCB, 0xE4], .set4H),
     ([0xCB, 0xE5], .set4L), ([0xCB, 0xE6], .set4AtHL), ([0xCB, 0xE7], .set4A), ([0xCB, 0xE8], .set5B),
     ([0xCB, 0xE9], .set5C), ([0xCB, 0xEA], .set5D), ([0xCB, 0xEB], .set5E), ([0xCB, 0xEC], .set5H), ([0xCB, 0xED], .set5L),
     ([0xCB, 0xEE], .set5AtHL), ([0xCB, 0xEF], .set5A)].all reads = true := by decide

theorem test_words_cb_Fx :
    [([0xCB, 0xF0], .set6B), ([0xCB, 0xF1], .set6C), ([0xCB, 0xF2], .set6D), ([0xCB, 0xF3], .set6E), ([0xCB, 0xF4], .set6H),
     ([0xCB, 0xF5], .set6L), ([0xCB, 0xF6], .set6AtHL), ([0xCB, 0xF7], .set6A), ([0xCB, 0xF8], .set7B),
     ([0xCB, 0xF9], .set7C), ([0xCB, 0xFA], .set7D), ([0xCB, 0xFB], .set7E), ([0xCB, 0xFC], .set7H), ([0xCB, 0xFD], .set7L),
     ([0xCB, 0xFE], .set7AtHL), ([0xCB, 0xFF], .set7A)].all reads = true := by decide

/-! ## Instructions: vectors of 95_test_vectors L2 -/

/-- The vector base state, with the given registers: memories of zeros, monochrome mode, no cycle passed. -/
def base (r : Regs) : State :=
  { State.reset with
    regs := r
    wram := .blank .zero
    hram := .blank .zero
    video := { Video.reset with vram := .blank .zero, oam := .blank .zero }
    audio := { Audio.reset 95 with wave := .blank .zero } }

/-- The base state's registers, PC at 0100. -/
def zero : Regs := ⟨0, 0, 0, 0, 0, 0, 0, 0, 0xFFFE, 0x0100⟩

/-- Bytes placed at addresses. -/
def with_ (s : State) (l : List (Word × Byte)) : State := l.foldl (fun s p => s.poke p.1 p.2) s

/-- One step of `s` with the bytes `bs` at PC gives a state in which `p` holds. -/
def runs (s : State) (bs : List Byte) (p : State → Bool) : Bool :=
  match step (s.place bs) with
  | .next t => p t
  | _ => false

/-- The registers, the cost, and bytes of memory after a step that raises nothing. -/
def is (r : Regs) (cost : Nat) (l : List (Word × Byte)) (t : State) : Bool :=
  decide (t.regs = r) && decide (t.cycles = cost) && t.fault.isNone && l.all fun p => decide (t.memRead p.1 = .ok p.2)

/-- R400. -/
theorem test_LD_B_C :
    runs (base ⟨0, 0, 0, 0x5A, 0, 0, 0, 0, 0xFFFE, 0x0100⟩) [0x41]
      (is ⟨0, 0, 0x5A, 0x5A, 0, 0, 0, 0, 0xFFFE, 0x0101⟩ 4 []) = true := by decide +kernel

/-- R400: LD A,A changes nothing, flags kept. -/
theorem test_LD_A_A :
    runs (base ⟨0x99, 0xB0, 0, 0, 0, 0, 0, 0, 0xFFFE, 0x0100⟩) [0x7F]
      (is ⟨0x99, 0xB0, 0, 0, 0, 0, 0, 0, 0xFFFE, 0x0101⟩ 4 []) = true := by decide +kernel

/-- R401. -/
theorem test_LD_B_d8 :
    runs (base zero) [0x06, 0x42] (is ⟨0, 0, 0x42, 0, 0, 0, 0, 0, 0xFFFE, 0x0102⟩ 8 []) = true := by decide +kernel

/-- R402. -/
theorem test_LD_A_at_HL :
    runs (with_ (base ⟨0, 0, 0, 0, 0, 0, 0xC1, 0x23, 0xFFFE, 0x0100⟩) [(0xC123, 0x9C)]) [0x7E]
      (is ⟨0x9C, 0, 0, 0, 0, 0, 0xC1, 0x23, 0xFFFE, 0x0101⟩ 8 []) = true := by decide +kernel

/-- R403. -/
theorem test_LD_at_HL_B :
    runs (base ⟨0, 0, 0x77, 0, 0, 0, 0xC0, 0x10, 0xFFFE, 0x0100⟩) [0x70]
      (is ⟨0, 0, 0x77, 0, 0, 0, 0xC0, 0x10, 0xFFFE, 0x0101⟩ 8 [(0xC010, 0x77)]) = true := by decide +kernel

/-- R403: the stored H is the address high byte. -/
theorem test_LD_at_HL_H :
    runs (base ⟨0, 0, 0, 0, 0, 0, 0xC0, 0x10, 0xFFFE, 0x0100⟩) [0x74]
      (is ⟨0, 0, 0, 0, 0, 0, 0xC0, 0x10, 0xFFFE, 0x0101⟩ 8 [(0xC010, 0xC0)]) = true := by decide +kernel

/-- R404. -/
theorem test_LD_at_HL_d8 :
    runs (base ⟨0, 0, 0, 0, 0, 0, 0xC0, 0, 0xFFFE, 0x0100⟩) [0x36, 0xAB]
      (is ⟨0, 0, 0, 0, 0, 0, 0xC0, 0, 0xFFFE, 0x0102⟩ 12 [(0xC000, 0xAB)]) = true := by decide +kernel

/-- R405. -/
theorem test_LD_A_at_BC :
    runs (with_ (base ⟨0, 0, 0xC0, 0x05, 0, 0, 0, 0, 0xFFFE, 0x0100⟩) [(0xC005, 0x3C)]) [0x0A]
      (is ⟨0x3C, 0, 0xC0, 0x05, 0, 0, 0, 0, 0xFFFE, 0x0101⟩ 8 []) = true := by decide +kernel

/-- R406. -/
theorem test_LD_A_at_DE :
    runs (with_ (base ⟨0, 0, 0, 0, 0xD0, 0x01, 0, 0, 0xFFFE, 0x0100⟩) [(0xD001, 0x4B)]) [0x1A]
      (is ⟨0x4B, 0, 0, 0, 0xD0, 0x01, 0, 0, 0xFFFE, 0x0101⟩ 8 []) = true := by decide +kernel

/-- R407. -/
theorem test_LD_at_BC_A :
    runs (base ⟨0x5E, 0, 0xC2, 0, 0, 0, 0, 0, 0xFFFE, 0x0100⟩) [0x02]
      (is ⟨0x5E, 0, 0xC2, 0, 0, 0, 0, 0, 0xFFFE, 0x0101⟩ 8 [(0xC200, 0x5E)]) = true := by decide +kernel

/-- R408. -/
theorem test_LD_at_DE_A :
    runs (base ⟨0x5E, 0, 0, 0, 0xC2, 0, 0, 0, 0xFFFE, 0x0100⟩) [0x12]
      (is ⟨0x5E, 0, 0, 0, 0xC2, 0, 0, 0, 0xFFFE, 0x0101⟩ 8 [(0xC200, 0x5E)]) = true := by decide +kernel

/-- R409: address low byte first. -/
theorem test_LD_A_at_a16 :
    runs (with_ (base zero) [(0xC000, 0x81)]) [0xFA, 0x00, 0xC0]
      (is ⟨0x81, 0, 0, 0, 0, 0, 0, 0, 0xFFFE, 0x0103⟩ 16 []) = true := by decide +kernel

/-- R410. -/
theorem test_LD_at_a16_A :
    runs (base ⟨0x18, 0, 0, 0, 0, 0, 0, 0, 0xFFFE, 0x0100⟩) [0xEA, 0x34, 0xC1]
      (is ⟨0x18, 0, 0, 0, 0, 0, 0, 0, 0xFFFE, 0x0103⟩ 16 [(0xC134, 0x18)]) = true := by decide +kernel

/-- R413. -/
theorem test_LDH_A_at_a8 :
    runs (with_ (base zero) [(0xFF80, 0x2A)]) [0xF0, 0x80]
      (is ⟨0x2A, 0, 0, 0, 0, 0, 0, 0, 0xFFFE, 0x0102⟩ 12 []) = true := by decide +kernel

/-- R414. -/
theorem test_LDH_at_a8_A :
    runs (base ⟨0x66, 0, 0, 0, 0, 0, 0, 0, 0xFFFE, 0x0100⟩) [0xE0, 0x81]
      (is ⟨0x66, 0, 0, 0, 0, 0, 0, 0, 0xFFFE, 0x0102⟩ 12 [(0xFF81, 0x66)]) = true := by decide +kernel

/-- R411. -/
theorem test_LD_A_at_C :
    runs (with_ (base ⟨0, 0, 0, 0x85, 0, 0, 0, 0, 0xFFFE, 0x0100⟩) [(0xFF85, 0x17)]) [0xF2]
      (is ⟨0x17, 0, 0, 0x85, 0, 0, 0, 0, 0xFFFE, 0x0101⟩ 8 []) = true := by decide +kernel

/-- R412: C = FF addresses IE. -/
theorem test_LD_at_C_A :
    runs (base ⟨0x04, 0, 0, 0xFF, 0, 0, 0, 0, 0xFFFE, 0x0100⟩) [0xE2]
      (fun t => is ⟨0x04, 0, 0, 0xFF, 0, 0, 0, 0, 0xFFFE, 0x0101⟩ 8 [] t && decide (t.ie = 0x04)) = true := by decide +kernel

/-- R415: carry from L into H. -/
theorem test_LD_A_HLi :
    runs (with_ (base ⟨0, 0, 0, 0, 0, 0, 0xC0, 0xFF, 0xFFFE, 0x0100⟩) [(0xC0FF, 0x11)]) [0x2A]
      (is ⟨0x11, 0, 0, 0, 0, 0, 0xC1, 0, 0xFFFE, 0x0101⟩ 8 []) = true := by decide +kernel

/-- R416: HL wraps FFFF to 0000. -/
theorem test_LD_HLi_A :
    runs (base ⟨0x01, 0, 0, 0, 0, 0, 0xFF, 0xFF, 0xFFFE, 0x0100⟩) [0x22]
      (fun t => is ⟨0x01, 0, 0, 0, 0, 0, 0, 0, 0xFFFE, 0x0101⟩ 8 [] t && decide (t.ie = 0x01)) = true := by decide +kernel

/-- R417: borrow from H. -/
theorem test_LD_A_HLd :
    runs (with_ (base ⟨0, 0, 0, 0, 0, 0, 0xC0, 0, 0xFFFE, 0x0100⟩) [(0xC000, 0x5A)]) [0x3A]
      (is ⟨0x5A, 0, 0, 0, 0, 0, 0xBF, 0xFF, 0xFFFE, 0x0101⟩ 8 []) = true := by decide +kernel

/-- R418. -/
theorem test_LD_HLd_A :
    runs (base ⟨0x07, 0, 0, 0, 0, 0, 0xD0, 0, 0xFFFE, 0x0100⟩) [0x32]
      (is ⟨0x07, 0, 0, 0, 0, 0, 0xCF, 0xFF, 0xFFFE, 0x0101⟩ 8 [(0xD000, 0x07)]) = true := by decide +kernel

/-- R450: immediate low byte first. -/
theorem test_LD_HL_d16 :
    runs (base zero) [0x21, 0x34, 0x12] (is ⟨0, 0, 0, 0, 0, 0, 0x12, 0x34, 0xFFFE, 0x0103⟩ 12 []) = true := by decide +kernel

/-- R450. -/
theorem test_LD_SP_d16 :
    runs (base ⟨0, 0, 0, 0, 0, 0, 0, 0, 0, 0x0100⟩) [0x31, 0xFE, 0xFF]
      (is ⟨0, 0, 0, 0, 0, 0, 0, 0, 0xFFFE, 0x0103⟩ 12 []) = true := by decide +kernel

/-- R451: SP stored low byte first. -/
theorem test_LD_at_a16_SP :
    runs (base ⟨0, 0, 0, 0, 0, 0, 0, 0, 0xFFF8, 0x0100⟩) [0x08, 0x00, 0xC0]
      (is ⟨0, 0, 0, 0, 0, 0, 0, 0, 0xFFF8, 0x0103⟩ 20 [(0xC000, 0xF8), (0xC001, 0xFF)]) = true := by decide +kernel

/-- R452. -/
theorem test_LD_SP_HL :
    runs (base ⟨0, 0, 0, 0, 0, 0, 0xD0, 0, 0xFFFE, 0x0100⟩) [0xF9]
      (is ⟨0, 0, 0, 0, 0, 0, 0xD0, 0, 0xD000, 0x0101⟩ 8 []) = true := by decide +kernel

/-- R453. -/
theorem test_PUSH_BC :
    runs (base ⟨0, 0, 0x12, 0x34, 0, 0, 0, 0, 0xFFFE, 0x0100⟩) [0xC5]
      (is ⟨0, 0, 0x12, 0x34, 0, 0, 0, 0, 0xFFFC, 0x0101⟩ 16 [(0xFFFC, 0x34), (0xFFFD, 0x12)]) = true := by decide +kernel

/-- R453. -/
theorem test_PUSH_AF :
    runs (base ⟨0x01, 0xB0, 0, 0, 0, 0, 0, 0, 0xFFFE, 0x0100⟩) [0xF5]
      (is ⟨0x01, 0xB0, 0, 0, 0, 0, 0, 0, 0xFFFC, 0x0101⟩ 16 [(0xFFFC, 0xB0), (0xFFFD, 0x01)]) = true := by decide +kernel

/-- R453: SP wraps: writes FFFF (IE) then FFFE. -/
theorem test_PUSH_DE :
    runs (base ⟨0, 0, 0, 0, 0xAB, 0xCD, 0, 0, 0, 0x0100⟩) [0xD5]
      (fun t => is ⟨0, 0, 0, 0, 0xAB, 0xCD, 0, 0, 0xFFFE, 0x0101⟩ 16 [(0xFFFE, 0xCD)] t && decide (t.ie = 0xAB)) = true := by decide +kernel

/-- R454. -/
theorem test_POP_HL :
    runs (with_ (base ⟨0, 0, 0, 0, 0, 0, 0, 0, 0xDFFE, 0x0100⟩) [(0xDFFE, 0x78), (0xDFFF, 0x56)]) [0xE1]
      (is ⟨0, 0, 0, 0, 0, 0, 0x56, 0x78, 0xE000, 0x0101⟩ 12 []) = true := by decide +kernel

/-- R455: low nibble of F discarded. -/
theorem test_POP_AF :
    runs (with_ (base ⟨0, 0, 0, 0, 0, 0, 0, 0, 0xDFFE, 0x0100⟩) [(0xDFFE, 0xFF), (0xDFFF, 0x12)]) [0xF1]
      (is ⟨0x12, 0xF0, 0, 0, 0, 0, 0, 0, 0xE000, 0x0101⟩ 12 []) = true := by decide +kernel

/-- R455: popped 0F gives F = 00. -/
theorem test_POP_AF_2 :
    runs (with_ (base ⟨0x55, 0xF0, 0, 0, 0, 0, 0, 0, 0xDFFE, 0x0100⟩) [(0xDFFE, 0x0F), (0xDFFF, 0x00)]) [0xF1]
      (is ⟨0, 0, 0, 0, 0, 0, 0, 0, 0xE000, 0x0101⟩ 12 []) = true := by decide +kernel

/-- R510: result 0 with H and C. -/
theorem test_ADD_A_B :
    runs (base ⟨0x3A, 0, 0xC6, 0, 0, 0, 0, 0, 0xFFFE, 0x0100⟩) [0x80]
      (is ⟨0, 0xB0, 0xC6, 0, 0, 0, 0, 0, 0xFFFE, 0x0101⟩ 4 []) = true := by decide +kernel

/-- R510: ADD A,A: C = old bit 7. -/
theorem test_ADD_A_A :
    runs (base ⟨0x88, 0, 0, 0, 0, 0, 0, 0, 0xFFFE, 0x0100⟩) [0x87]
      (is ⟨0x10, 0x30, 0, 0, 0, 0, 0, 0, 0xFFFE, 0x0101⟩ 4 []) = true := by decide +kernel

/-- R511: half carry only. -/
theorem test_ADD_A_at_HL :
    runs (with_ (base ⟨0x0F, 0, 0, 0, 0, 0, 0xC0, 0, 0xFFFE, 0x0100⟩) [(0xC000, 0x01)]) [0x86]
      (is ⟨0x10, 0x20, 0, 0, 0, 0, 0xC0, 0, 0xFFFE, 0x0101⟩ 8 []) = true := by decide +kernel

/-- R512. -/
theorem test_ADD_A_d8 :
    runs (base ⟨0x01, 0, 0, 0, 0, 0, 0, 0, 0xFFFE, 0x0100⟩) [0xC6, 0xFF]
      (is ⟨0, 0xB0, 0, 0, 0, 0, 0, 0, 0xFFFE, 0x0102⟩ 8 []) = true := by decide +kernel

/-- R513: carry in makes the half carry. -/
theorem test_ADC_A_B :
    runs (base ⟨0x0F, 0x10, 0, 0, 0, 0, 0, 0, 0xFFFE, 0x0100⟩) [0x88]
      (is ⟨0x10, 0x20, 0, 0, 0, 0, 0, 0, 0xFFFE, 0x0101⟩ 4 []) = true := by decide +kernel

/-- R513: FF + FF + 1 = 1FF. -/
theorem test_ADC_A_C :
    runs (base ⟨0xFF, 0x10, 0, 0xFF, 0, 0, 0, 0, 0xFFFE, 0x0100⟩) [0x89]
      (is ⟨0xFF, 0x30, 0, 0xFF, 0, 0, 0, 0, 0xFFFE, 0x0101⟩ 4 []) = true := by decide +kernel

/-- R515: carry in wraps to 0. -/
theorem test_ADC_A_d8 :
    runs (base ⟨0xFF, 0x10, 0, 0, 0, 0, 0, 0, 0xFFFE, 0x0100⟩) [0xCE, 0x00]
      (is ⟨0, 0xB0, 0, 0, 0, 0, 0, 0, 0xFFFE, 0x0102⟩ 8 []) = true := by decide +kernel

/-- R516: §8: sub(a,a) gives Z = 1, C = 0, H = 0. -/
theorem test_SUB_A_A :
    runs (base ⟨0x5C, 0, 0, 0, 0, 0, 0, 0, 0xFFFE, 0x0100⟩) [0x97]
      (is ⟨0, 0xC0, 0, 0, 0, 0, 0, 0, 0xFFFE, 0x0101⟩ 4 []) = true := by decide +kernel

/-- R516: half borrow. -/
theorem test_SUB_A_B :
    runs (base ⟨0x10, 0, 0x01, 0, 0, 0, 0, 0, 0xFFFE, 0x0100⟩) [0x90]
      (is ⟨0x0F, 0x60, 0x01, 0, 0, 0, 0, 0, 0xFFFE, 0x0101⟩ 4 []) = true := by decide +kernel

/-- R516: borrow wraps to FF. -/
theorem test_SUB_A_B_2 :
    runs (base ⟨0, 0, 0x01, 0, 0, 0, 0, 0, 0xFFFE, 0x0100⟩) [0x90]
      (is ⟨0xFF, 0x70, 0x01, 0, 0, 0, 0, 0, 0xFFFE, 0x0101⟩ 4 []) = true := by decide +kernel

/-- R518. -/
theorem test_SUB_A_d8 :
    runs (base ⟨0x3E, 0, 0, 0, 0, 0, 0, 0, 0xFFFE, 0x0100⟩) [0xD6, 0x3E]
      (is ⟨0, 0xC0, 0, 0, 0, 0, 0, 0, 0xFFFE, 0x0102⟩ 8 []) = true := by decide +kernel

/-- R519: borrow in: 10 - 0F - 1 = 0. -/
theorem test_SBC_A_B :
    runs (base ⟨0x10, 0x10, 0x0F, 0, 0, 0, 0, 0, 0xFFFE, 0x0100⟩) [0x98]
      (is ⟨0, 0xE0, 0x0F, 0, 0, 0, 0, 0, 0xFFFE, 0x0101⟩ 4 []) = true := by decide +kernel

/-- R519: SBC A,A with C = 1 gives FF. -/
theorem test_SBC_A_A :
    runs (base ⟨0x12, 0x10, 0, 0, 0, 0, 0, 0, 0xFFFE, 0x0100⟩) [0x9F]
      (is ⟨0xFF, 0x70, 0, 0, 0, 0, 0, 0, 0xFFFE, 0x0101⟩ 4 []) = true := by decide +kernel

/-- R519: SBC A,A with C = 0 gives 0. -/
theorem test_SBC_A_A_2 :
    runs (base ⟨0x12, 0, 0, 0, 0, 0, 0, 0, 0xFFFE, 0x0100⟩) [0x9F]
      (is ⟨0, 0xC0, 0, 0, 0, 0, 0, 0, 0xFFFE, 0x0101⟩ 4 []) = true := by decide +kernel

/-- R521. -/
theorem test_SBC_A_d8 :
    runs (base ⟨0, 0x10, 0, 0, 0, 0, 0, 0, 0xFFFE, 0x0100⟩) [0xDE, 0x01]
      (is ⟨0xFE, 0x70, 0, 0, 0, 0, 0, 0, 0xFFFE, 0x0102⟩ 8 []) = true := by decide +kernel

/-- R522: AND sets H. -/
theorem test_AND_A_B :
    runs (base ⟨0xF0, 0, 0x0F, 0, 0, 0, 0, 0, 0xFFFE, 0x0100⟩) [0xA0]
      (is ⟨0, 0xA0, 0x0F, 0, 0, 0, 0, 0, 0xFFFE, 0x0101⟩ 4 []) = true := by decide +kernel

/-- R524: AND clears C. -/
theorem test_AND_A_d8 :
    runs (base ⟨0xFF, 0x10, 0, 0, 0, 0, 0, 0, 0xFFFE, 0x0100⟩) [0xE6, 0x3C]
      (is ⟨0x3C, 0x20, 0, 0, 0, 0, 0, 0, 0xFFFE, 0x0102⟩ 8 []) = true := by decide +kernel

/-- R525. -/
theorem test_XOR_A_B :
    runs (base ⟨0x5A, 0, 0xFF, 0, 0, 0, 0, 0, 0xFFFE, 0x0100⟩) [0xA8]
      (is ⟨0xA5, 0, 0xFF, 0, 0, 0, 0, 0, 0xFFFE, 0x0101⟩ 4 []) = true := by decide +kernel

/-- R525: XOR A clears A and every flag but Z. -/
theorem test_XOR_A_A :
    runs (base ⟨0x77, 0x70, 0, 0, 0, 0, 0, 0, 0xFFFE, 0x0100⟩) [0xAF]
      (is ⟨0, 0x80, 0, 0, 0, 0, 0, 0, 0xFFFE, 0x0101⟩ 4 []) = true := by decide +kernel

/-- R528. -/
theorem test_OR_A_B :
    runs (base ⟨0, 0x70, 0, 0, 0, 0, 0, 0, 0xFFFE, 0x0100⟩) [0xB0]
      (is ⟨0, 0x80, 0, 0, 0, 0, 0, 0, 0xFFFE, 0x0101⟩ 4 []) = true := by decide +kernel

/-- R530. -/
theorem test_OR_A_d8 :
    runs (base ⟨0x01, 0, 0, 0, 0, 0, 0, 0, 0xFFFE, 0x0100⟩) [0xF6, 0x80]
      (is ⟨0x81, 0, 0, 0, 0, 0, 0, 0, 0xFFFE, 0x0102⟩ 8 []) = true := by decide +kernel

/-- R531: CP leaves A. -/
theorem test_CP_A_B :
    runs (base ⟨0x3C, 0, 0x2F, 0, 0, 0, 0, 0, 0xFFFE, 0x0100⟩) [0xB8]
      (is ⟨0x3C, 0x60, 0x2F, 0, 0, 0, 0, 0, 0xFFFE, 0x0101⟩ 4 []) = true := by decide +kernel

/-- R533. -/
theorem test_CP_A_d8 :
    runs (base ⟨0x3C, 0, 0, 0, 0, 0, 0, 0, 0xFFFE, 0x0100⟩) [0xFE, 0x3C]
      (is ⟨0x3C, 0xC0, 0, 0, 0, 0, 0, 0, 0xFFFE, 0x0102⟩ 8 []) = true := by decide +kernel

/-- R533: A < operand sets C. -/
theorem test_CP_A_d8_2 :
    runs (base ⟨0x3C, 0, 0, 0, 0, 0, 0, 0, 0xFFFE, 0x0100⟩) [0xFE, 0x40]
      (is ⟨0x3C, 0x50, 0, 0, 0, 0, 0, 0, 0xFFFE, 0x0102⟩ 8 []) = true := by decide +kernel

/-- R532. -/
theorem test_CP_A_at_HL :
    runs (with_ (base ⟨0x3C, 0, 0, 0, 0, 0, 0xC0, 0, 0xFFFE, 0x0100⟩) [(0xC000, 0x3D)]) [0xBE]
      (is ⟨0x3C, 0x70, 0, 0, 0, 0, 0xC0, 0, 0xFFFE, 0x0101⟩ 8 []) = true := by decide +kernel

/-- R540: INC wraps, C kept. -/
theorem test_INC_B :
    runs (base ⟨0, 0x10, 0xFF, 0, 0, 0, 0, 0, 0xFFFE, 0x0100⟩) [0x04]
      (is ⟨0, 0xB0, 0, 0, 0, 0, 0, 0, 0xFFFE, 0x0101⟩ 4 []) = true := by decide +kernel

/-- R540. -/
theorem test_INC_C :
    runs (base ⟨0, 0, 0, 0x0F, 0, 0, 0, 0, 0xFFFE, 0x0100⟩) [0x0C]
      (is ⟨0, 0x20, 0, 0x10, 0, 0, 0, 0, 0xFFFE, 0x0101⟩ 4 []) = true := by decide +kernel

/-- R542: DEC to 0, C kept. -/
theorem test_DEC_A :
    runs (base ⟨0x01, 0x10, 0, 0, 0, 0, 0, 0, 0xFFFE, 0x0100⟩) [0x3D]
      (is ⟨0, 0xD0, 0, 0, 0, 0, 0, 0, 0xFFFE, 0x0101⟩ 4 []) = true := by decide +kernel

/-- R542: DEC wraps to FF. -/
theorem test_DEC_D :
    runs (base zero) [0x15] (is ⟨0, 0x60, 0, 0, 0xFF, 0, 0, 0, 0xFFFE, 0x0101⟩ 4 []) = true := by decide +kernel

/-- R542. -/
theorem test_DEC_B :
    runs (base ⟨0, 0, 0x10, 0, 0, 0, 0, 0, 0xFFFE, 0x0100⟩) [0x05]
      (is ⟨0, 0x60, 0x0F, 0, 0, 0, 0, 0, 0xFFFE, 0x0101⟩ 4 []) = true := by decide +kernel

/-- R541. -/
theorem test_INC_at_HL :
    runs (with_ (base ⟨0, 0, 0, 0, 0, 0, 0xC0, 0, 0xFFFE, 0x0100⟩) [(0xC000, 0xFF)]) [0x34]
      (is ⟨0, 0xA0, 0, 0, 0, 0, 0xC0, 0, 0xFFFE, 0x0101⟩ 12 [(0xC000, 0x00)]) = true := by decide +kernel

/-- R543. -/
theorem test_DEC_at_HL :
    runs (with_ (base ⟨0, 0, 0, 0, 0, 0, 0xC0, 0, 0xFFFE, 0x0100⟩) [(0xC000, 0x00)]) [0x35]
      (is ⟨0, 0x60, 0, 0, 0, 0, 0xC0, 0, 0xFFFE, 0x0101⟩ 12 [(0xC000, 0xFF)]) = true := by decide +kernel

/-- R550: BCD 99 + 67: the binary add left 00 with H, C; the result is 66 with C (166). -/
theorem test_DAA :
    runs (base ⟨0, 0x30, 0, 0, 0, 0, 0, 0, 0xFFFE, 0x0100⟩) [0x27]
      (is ⟨0x66, 0x10, 0, 0, 0, 0, 0, 0, 0xFFFE, 0x0101⟩ 4 []) = true := by decide +kernel

/-- R550: BCD 10 - 20: the binary subtract left F0 with N, C; the result is 90 with the borrow kept. -/
theorem test_DAA_2 :
    runs (base ⟨0xF0, 0x50, 0, 0, 0, 0, 0, 0, 0xFFFE, 0x0100⟩) [0x27]
      (is ⟨0x90, 0x50, 0, 0, 0, 0, 0, 0, 0xFFFE, 0x0101⟩ 4 []) = true := by decide +kernel

/-- R551. -/
theorem test_CPL :
    runs (base ⟨0x35, 0x90, 0, 0, 0, 0, 0, 0, 0xFFFE, 0x0100⟩) [0x2F]
      (is ⟨0xCA, 0xF0, 0, 0, 0, 0, 0, 0, 0xFFFE, 0x0101⟩ 4 []) = true := by decide +kernel

/-- R552: SCF clears N and H, keeps Z. -/
theorem test_SCF :
    runs (base ⟨0, 0xE0, 0, 0, 0, 0, 0, 0, 0xFFFE, 0x0100⟩) [0x37]
      (is ⟨0, 0x90, 0, 0, 0, 0, 0, 0, 0xFFFE, 0x0101⟩ 4 []) = true := by decide +kernel

/-- R553. -/
theorem test_CCF :
    runs (base ⟨0, 0x10, 0, 0, 0, 0, 0, 0, 0xFFFE, 0x0100⟩) [0x3F]
      (is ⟨0, 0, 0, 0, 0, 0, 0, 0, 0xFFFE, 0x0101⟩ 4 []) = true := by decide +kernel

/-- R553: CCF with C = 1 clears it. -/
theorem test_CCF_2 :
    runs (base ⟨0, 0xF0, 0, 0, 0, 0, 0, 0, 0xFFFE, 0x0100⟩) [0x3F]
      (is ⟨0, 0x80, 0, 0, 0, 0, 0, 0, 0xFFFE, 0x0101⟩ 4 []) = true := by decide +kernel

/-- R600: H from bit 11. -/
theorem test_ADD_HL_BC :
    runs (base ⟨0, 0, 0x06, 0x05, 0, 0, 0x8A, 0x23, 0xFFFE, 0x0100⟩) [0x09]
      (is ⟨0, 0x20, 0x06, 0x05, 0, 0, 0x90, 0x28, 0xFFFE, 0x0101⟩ 8 []) = true := by decide +kernel

/-- R600: H and C; Z kept. -/
theorem test_ADD_HL_HL :
    runs (base ⟨0, 0x80, 0, 0, 0, 0, 0x8A, 0x23, 0xFFFE, 0x0100⟩) [0x29]
      (is ⟨0, 0xB0, 0, 0, 0, 0, 0x14, 0x46, 0xFFFE, 0x0101⟩ 8 []) = true := by decide +kernel

/-- R600: wraps to 0, Z not set. -/
theorem test_ADD_HL_DE :
    runs (base ⟨0, 0, 0, 0, 0, 0x01, 0xFF, 0xFF, 0xFFFE, 0x0100⟩) [0x19]
      (is ⟨0, 0x30, 0, 0, 0, 0x01, 0, 0, 0xFFFE, 0x0101⟩ 8 []) = true := by decide +kernel

/-- R600. -/
theorem test_ADD_HL_SP :
    runs (base ⟨0, 0, 0, 0, 0, 0, 0, 0x01, 0xFFFE, 0x0100⟩) [0x39]
      (is ⟨0, 0, 0, 0, 0, 0, 0xFF, 0xFF, 0xFFFE, 0x0101⟩ 8 []) = true := by decide +kernel

/-- R601: wraps, no flag change. -/
theorem test_INC_BC :
    runs (base ⟨0, 0xF0, 0xFF, 0xFF, 0, 0, 0, 0, 0xFFFE, 0x0100⟩) [0x03]
      (is ⟨0, 0xF0, 0, 0, 0, 0, 0, 0, 0xFFFE, 0x0101⟩ 8 []) = true := by decide +kernel

/-- R602. -/
theorem test_DEC_DE :
    runs (base zero) [0x1B] (is ⟨0, 0, 0, 0, 0xFF, 0xFF, 0, 0, 0xFFFE, 0x0101⟩ 8 []) = true := by decide +kernel

/-- R601. -/
theorem test_INC_SP :
    runs (base ⟨0, 0, 0, 0, 0, 0, 0, 0, 0xFFFF, 0x0100⟩) [0x33]
      (is ⟨0, 0, 0, 0, 0, 0, 0, 0, 0, 0x0101⟩ 8 []) = true := by decide +kernel

/-- R603: carries from bits 3 and 7. -/
theorem test_ADD_SP_e8 :
    runs (base ⟨0, 0, 0, 0, 0, 0, 0, 0, 0xFFF8, 0x0100⟩) [0xE8, 0x08]
      (is ⟨0, 0x30, 0, 0, 0, 0, 0, 0, 0, 0x0102⟩ 16 []) = true := by decide +kernel

/-- R603: -128. -/
theorem test_ADD_SP_e8_2 :
    runs (base ⟨0, 0, 0, 0, 0, 0, 0, 0, 0x1234, 0x0100⟩) [0xE8, 0x80]
      (is ⟨0, 0, 0, 0, 0, 0, 0, 0, 0x11B4, 0x0102⟩ 16 []) = true := by decide +kernel

/-- R604. -/
theorem test_LD_HL_SP_e8 :
    runs (base ⟨0, 0, 0, 0, 0, 0, 0, 0, 0xFFF8, 0x0100⟩) [0xF8, 0x02]
      (is ⟨0, 0, 0, 0, 0, 0, 0xFF, 0xFA, 0xFFF8, 0x0102⟩ 12 []) = true := by decide +kernel

/-- R604: -1 with low byte FF: H and C set, Z cleared. -/
theorem test_LD_HL_SP_e8_2 :
    runs (base ⟨0, 0x80, 0, 0, 0, 0, 0, 0, 0x00FF, 0x0100⟩) [0xF8, 0xFF]
      (is ⟨0, 0x30, 0, 0, 0, 0, 0, 0xFE, 0x00FF, 0x0102⟩ 12 []) = true := by decide +kernel

/-- R650. -/
theorem test_RLCA :
    runs (base ⟨0x85, 0, 0, 0, 0, 0, 0, 0, 0xFFFE, 0x0100⟩) [0x07]
      (is ⟨0x0B, 0x10, 0, 0, 0, 0, 0, 0, 0xFFFE, 0x0101⟩ 4 []) = true := by decide +kernel

/-- R650: RLCA clears Z even for 0. -/
theorem test_RLCA_2 :
    runs (base ⟨0, 0x80, 0, 0, 0, 0, 0, 0, 0xFFFE, 0x0100⟩) [0x07]
      (is ⟨0, 0, 0, 0, 0, 0, 0, 0, 0xFFFE, 0x0101⟩ 4 []) = true := by decide +kernel

/-- R652. -/
theorem test_RLA :
    runs (base ⟨0x95, 0x10, 0, 0, 0, 0, 0, 0, 0xFFFE, 0x0100⟩) [0x17]
      (is ⟨0x2B, 0x10, 0, 0, 0, 0, 0, 0, 0xFFFE, 0x0101⟩ 4 []) = true := by decide +kernel

/-- R651. -/
theorem test_RRCA :
    runs (base ⟨0x01, 0, 0, 0, 0, 0, 0, 0, 0xFFFE, 0x0100⟩) [0x0F]
      (is ⟨0x80, 0x10, 0, 0, 0, 0, 0, 0, 0xFFFE, 0x0101⟩ 4 []) = true := by decide +kernel

/-- R653: result 0, Z still 0. -/
theorem test_RRA :
    runs (base ⟨0x01, 0, 0, 0, 0, 0, 0, 0, 0xFFFE, 0x0100⟩) [0x1F]
      (is ⟨0, 0x10, 0, 0, 0, 0, 0, 0, 0xFFFE, 0x0101⟩ 4 []) = true := by decide +kernel

/-- R660. -/
theorem test_RLC_B :
    runs (base ⟨0, 0, 0x85, 0, 0, 0, 0, 0, 0xFFFE, 0x0100⟩) [0xCB, 0x00]
      (is ⟨0, 0x10, 0x0B, 0, 0, 0, 0, 0, 0xFFFE, 0x0102⟩ 8 []) = true := by decide +kernel

/-- R660: CB rotate sets Z. -/
theorem test_RLC_B_2 :
    runs (base ⟨0, 0x10, 0, 0, 0, 0, 0, 0, 0xFFFE, 0x0100⟩) [0xCB, 0x00]
      (is ⟨0, 0x80, 0, 0, 0, 0, 0, 0, 0xFFFE, 0x0102⟩ 8 []) = true := by decide +kernel

/-- R661. -/
theorem test_RLC_at_HL :
    runs (with_ (base ⟨0, 0, 0, 0, 0, 0, 0xC0, 0, 0xFFFE, 0x0100⟩) [(0xC000, 0x80)]) [0xCB, 0x06]
      (is ⟨0, 0x10, 0, 0, 0, 0, 0xC0, 0, 0xFFFE, 0x0102⟩ 16 [(0xC000, 0x01)]) = true := by decide +kernel

/-- R662. -/
theorem test_RRC_C :
    runs (base ⟨0, 0, 0, 0x01, 0, 0, 0, 0, 0xFFFE, 0x0100⟩) [0xCB, 0x09]
      (is ⟨0, 0x10, 0, 0x80, 0, 0, 0, 0, 0xFFFE, 0x0102⟩ 8 []) = true := by decide +kernel

/-- R664: RL: bit 7 out, zero in. -/
theorem test_RL_D :
    runs (base ⟨0, 0, 0, 0, 0x80, 0, 0, 0, 0xFFFE, 0x0100⟩) [0xCB, 0x12]
      (is ⟨0, 0x90, 0, 0, 0, 0, 0, 0, 0xFFFE, 0x0102⟩ 8 []) = true := by decide +kernel

/-- R666. -/
theorem test_RR_E :
    runs (base ⟨0, 0x10, 0, 0, 0, 0x01, 0, 0, 0xFFFE, 0x0100⟩) [0xCB, 0x1B]
      (is ⟨0, 0x10, 0, 0, 0, 0x80, 0, 0, 0xFFFE, 0x0102⟩ 8 []) = true := by decide +kernel

/-- R668. -/
theorem test_SLA_A :
    runs (base ⟨0xC0, 0, 0, 0, 0, 0, 0, 0, 0xFFFE, 0x0100⟩) [0xCB, 0x27]
      (is ⟨0x80, 0x10, 0, 0, 0, 0, 0, 0, 0xFFFE, 0x0102⟩ 8 []) = true := by decide +kernel

/-- R670: SRA keeps bit 7. -/
theorem test_SRA_B :
    runs (base ⟨0, 0, 0x81, 0, 0, 0, 0, 0, 0xFFFE, 0x0100⟩) [0xCB, 0x28]
      (is ⟨0, 0x10, 0xC0, 0, 0, 0, 0, 0, 0xFFFE, 0x0102⟩ 8 []) = true := by decide +kernel

/-- R672: SWAP clears C. -/
theorem test_SWAP_A :
    runs (base ⟨0xF1, 0x10, 0, 0, 0, 0, 0, 0, 0xFFFE, 0x0100⟩) [0xCB, 0x37]
      (is ⟨0x1F, 0, 0, 0, 0, 0, 0, 0, 0xFFFE, 0x0102⟩ 8 []) = true := by decide +kernel

/-- R673. -/
theorem test_SWAP_at_HL :
    runs (with_ (base ⟨0, 0, 0, 0, 0, 0, 0xC0, 0, 0xFFFE, 0x0100⟩) [(0xC000, 0x00)]) [0xCB, 0x36]
      (is ⟨0, 0x80, 0, 0, 0, 0, 0xC0, 0, 0xFFFE, 0x0102⟩ 16 []) = true := by decide +kernel

/-- R674: SRL to 0. -/
theorem test_SRL_A :
    runs (base ⟨0x01, 0, 0, 0, 0, 0, 0, 0, 0xFFFE, 0x0100⟩) [0xCB, 0x3F]
      (is ⟨0, 0x90, 0, 0, 0, 0, 0, 0, 0xFFFE, 0x0102⟩ 8 []) = true := by decide +kernel

/-- R680: BIT 7,H set: Z = 0, C kept. -/
theorem test_BIT_7_H :
    runs (base ⟨0, 0x10, 0, 0, 0, 0, 0x80, 0, 0xFFFE, 0x0100⟩) [0xCB, 0x7C]
      (is ⟨0, 0x30, 0, 0, 0, 0, 0x80, 0, 0xFFFE, 0x0102⟩ 8 []) = true := by decide +kernel

/-- R680: BIT 0,A clear: Z = 1. -/
theorem test_BIT_0_A :
    runs (base ⟨0xFE, 0, 0, 0, 0, 0, 0, 0, 0xFFFE, 0x0100⟩) [0xCB, 0x47]
      (is ⟨0xFE, 0xA0, 0, 0, 0, 0, 0, 0, 0xFFFE, 0x0102⟩ 8 []) = true := by decide +kernel

/-- R681. -/
theorem test_BIT_0_at_HL :
    runs (with_ (base ⟨0, 0, 0, 0, 0, 0, 0xC0, 0, 0xFFFE, 0x0100⟩) [(0xC000, 0x01)]) [0xCB, 0x46]
      (is ⟨0, 0x20, 0, 0, 0, 0, 0xC0, 0, 0xFFFE, 0x0102⟩ 12 []) = true := by decide +kernel

/-- R682: RES leaves flags. -/
theorem test_RES_0_A :
    runs (base ⟨0xFF, 0xB0, 0, 0, 0, 0, 0, 0, 0xFFFE, 0x0100⟩) [0xCB, 0x87]
      (is ⟨0xFE, 0xB0, 0, 0, 0, 0, 0, 0, 0xFFFE, 0x0102⟩ 8 []) = true := by decide +kernel

/-- R683. -/
theorem test_RES_7_at_HL :
    runs (with_ (base ⟨0, 0, 0, 0, 0, 0, 0xC0, 0, 0xFFFE, 0x0100⟩) [(0xC000, 0xFF)]) [0xCB, 0xBE]
      (is ⟨0, 0, 0, 0, 0, 0, 0xC0, 0, 0xFFFE, 0x0102⟩ 16 [(0xC000, 0x7F)]) = true := by decide +kernel

/-- R684. -/
theorem test_SET_0_B :
    runs (base zero) [0xCB, 0xC0] (is ⟨0, 0, 0x01, 0, 0, 0, 0, 0, 0xFFFE, 0x0102⟩ 8 []) = true := by decide +kernel

/-- R685. -/
theorem test_SET_7_at_HL :
    runs (with_ (base ⟨0, 0, 0, 0, 0, 0, 0xC0, 0, 0xFFFE, 0x0100⟩) [(0xC000, 0x00)]) [0xCB, 0xFE]
      (is ⟨0, 0, 0, 0, 0, 0, 0xC0, 0, 0xFFFE, 0x0102⟩ 16 [(0xC000, 0x80)]) = true := by decide +kernel

/-- R701. -/
theorem test_JP_a16 :
    runs (base zero) [0xC3, 0x50, 0x01] (is ⟨0, 0, 0, 0, 0, 0, 0, 0, 0xFFFE, 0x0150⟩ 16 []) = true := by decide +kernel

/-- R702: NZ taken. -/
theorem test_JP_NZ_a16 :
    runs (base zero) [0xC2, 0x00, 0x02] (is ⟨0, 0, 0, 0, 0, 0, 0, 0, 0xFFFE, 0x0200⟩ 16 []) = true := by decide +kernel

/-- R702: NZ not taken. -/
theorem test_JP_NZ_a16_2 :
    runs (base ⟨0, 0x80, 0, 0, 0, 0, 0, 0, 0xFFFE, 0x0100⟩) [0xC2, 0x00, 0x02]
      (is ⟨0, 0x80, 0, 0, 0, 0, 0, 0, 0xFFFE, 0x0103⟩ 12 []) = true := by decide +kernel

/-- R702: C taken. -/
theorem test_JP_C_a16 :
    runs (base ⟨0, 0x10, 0, 0, 0, 0, 0, 0, 0xFFFE, 0x0100⟩) [0xDA, 0x00, 0x02]
      (is ⟨0, 0x10, 0, 0, 0, 0, 0, 0, 0xFFFE, 0x0200⟩ 16 []) = true := by decide +kernel

/-- R703. -/
theorem test_JP_HL :
    runs (base ⟨0, 0, 0, 0, 0, 0, 0xC0, 0, 0xFFFE, 0x0100⟩) [0xE9]
      (is ⟨0, 0, 0, 0, 0, 0, 0xC0, 0, 0xFFFE, 0xC000⟩ 4 []) = true := by decide +kernel

/-- R704: JR -2 jumps to itself. -/
theorem test_JR_e8 : runs (base zero) [0x18, 0xFE] (is zero 12 []) = true := by decide +kernel

/-- R704: -128. -/
theorem test_JR_e8_2 :
    runs (base zero) [0x18, 0x80] (is ⟨0, 0, 0, 0, 0, 0, 0, 0, 0xFFFE, 0x0082⟩ 12 []) = true := by decide +kernel

/-- R705: backward, taken. -/
theorem test_JR_NZ_e8 :
    runs (base zero) [0x20, 0xFA] (is ⟨0, 0, 0, 0, 0, 0, 0, 0, 0xFFFE, 0x00FC⟩ 12 []) = true := by decide +kernel

/-- R705: not taken. -/
theorem test_JR_Z_e8 :
    runs (base zero) [0x28, 0xFA] (is ⟨0, 0, 0, 0, 0, 0, 0, 0, 0xFFFE, 0x0102⟩ 8 []) = true := by decide +kernel

/-- R705. -/
theorem test_JR_C_e8 :
    runs (base ⟨0, 0x10, 0, 0, 0, 0, 0, 0, 0xFFFE, 0x0100⟩) [0x38, 0x10]
      (is ⟨0, 0x10, 0, 0, 0, 0, 0, 0, 0xFFFE, 0x0112⟩ 12 []) = true := by decide +kernel

/-- R705: NC not taken. -/
theorem test_JR_NC_e8 :
    runs (base ⟨0, 0x10, 0, 0, 0, 0, 0, 0, 0xFFFE, 0x0100⟩) [0x30, 0x10]
      (is ⟨0, 0x10, 0, 0, 0, 0, 0, 0, 0xFFFE, 0x0102⟩ 8 []) = true := by decide +kernel

/-- R706: pushes the address after the CALL. -/
theorem test_CALL_a16 :
    runs (base zero) [0xCD, 0x00, 0x20]
      (is ⟨0, 0, 0, 0, 0, 0, 0, 0, 0xFFFC, 0x2000⟩ 24 [(0xFFFC, 0x03), (0xFFFD, 0x01)]) = true := by decide +kernel

/-- R707: not taken: no push. -/
theorem test_CALL_NZ_a16 :
    runs (base ⟨0, 0x80, 0, 0, 0, 0, 0, 0, 0xFFFE, 0x0100⟩) [0xC4, 0x00, 0x20]
      (is ⟨0, 0x80, 0, 0, 0, 0, 0, 0, 0xFFFE, 0x0103⟩ 12 []) = true := by decide +kernel

/-- R707. -/
theorem test_CALL_C_a16 :
    runs (base ⟨0, 0x10, 0, 0, 0, 0, 0, 0, 0xFFFE, 0x0100⟩) [0xDC, 0x00, 0x20]
      (is ⟨0, 0x10, 0, 0, 0, 0, 0, 0, 0xFFFC, 0x2000⟩ 24 [(0xFFFC, 0x03), (0xFFFD, 0x01)]) = true := by decide +kernel

/-- R708. -/
theorem test_RET :
    runs (with_ (base ⟨0, 0, 0, 0, 0, 0, 0, 0, 0xDFFC, 0x0100⟩) [(0xDFFC, 0x03), (0xDFFD, 0x01)]) [0xC9]
      (is ⟨0, 0, 0, 0, 0, 0, 0, 0, 0xDFFE, 0x0103⟩ 16 []) = true := by decide +kernel

/-- R709. -/
theorem test_RET_Z :
    runs (with_ (base ⟨0, 0x80, 0, 0, 0, 0, 0, 0, 0xDFFC, 0x0100⟩) [(0xDFFC, 0x03), (0xDFFD, 0x01)]) [0xC8]
      (is ⟨0, 0x80, 0, 0, 0, 0, 0, 0, 0xDFFE, 0x0103⟩ 20 []) = true := by decide +kernel

/-- R709: not taken. -/
theorem test_RET_Z_2 :
    runs (with_ (base ⟨0, 0, 0, 0, 0, 0, 0, 0, 0xDFFC, 0x0100⟩) [(0xDFFC, 0x03), (0xDFFD, 0x01)]) [0xC8]
      (is ⟨0, 0, 0, 0, 0, 0, 0, 0, 0xDFFC, 0x0101⟩ 8 []) = true := by decide +kernel

/-- R710: IME = 1 at once. -/
theorem test_RETI :
    runs (with_ (base ⟨0, 0, 0, 0, 0, 0, 0, 0, 0xDFFC, 0x0100⟩) [(0xDFFC, 0x08), (0xDFFD, 0x01)]) [0xD9]
      (fun t => is ⟨0, 0, 0, 0, 0, 0, 0, 0, 0xDFFE, 0x0108⟩ 16 [] t && t.ime) = true := by decide +kernel

/-- R711: RST 38. -/
theorem test_RST_38 :
    runs (base zero) [0xFF]
      (is ⟨0, 0, 0, 0, 0, 0, 0, 0, 0xFFFC, 0x0038⟩ 16 [(0xFFFC, 0x01), (0xFFFD, 0x01)]) = true := by decide +kernel

/-- R711: RST 00. -/
theorem test_RST_00 :
    runs (base ⟨0, 0, 0, 0, 0, 0, 0, 0, 0xD000, 0x0100⟩) [0xC7]
      (is ⟨0, 0, 0, 0, 0, 0, 0, 0, 0xCFFE, 0⟩ 16 [(0xCFFE, 0x01), (0xCFFF, 0x01)]) = true := by decide +kernel

/-- R750. -/
theorem test_NOP : runs (base zero) [0x00] (is ⟨0, 0, 0, 0, 0, 0, 0, 0, 0xFFFE, 0x0101⟩ 4 []) = true := by decide +kernel

/-- R751. -/
theorem test_HALT :
    runs ({ base zero with ie := 0x01 }) [0x76]
      (fun t => is ⟨0, 0, 0, 0, 0, 0, 0, 0, 0xFFFE, 0x0101⟩ 4 [] t && t.halted) = true := by decide +kernel

/-- R754. -/
theorem test_DI :
    runs ({ base zero with ime := true }) [0xF3]
      (fun t => is ⟨0, 0, 0, 0, 0, 0, 0, 0, 0xFFFE, 0x0101⟩ 4 [] t && !t.ime) = true := by decide +kernel

/-- R755. -/
theorem test_EI :
    runs (base zero) [0xFB]
      (fun t => is ⟨0, 0, 0, 0, 0, 0, 0, 0, 0xFFFE, 0x0101⟩ 4 [] t && t.eiPending) = true := by decide +kernel

/-- R760: a prepared switch in color mode, its cost halved after the switch. -/
theorem test_STOP :
    runs { base zero with colorMode := true, speedPrep := true } [0x10, 0x00]
      (fun t => is { zero with pc := 0x0102 } 2 [] t && t.doubleSpeed && !t.speedPrep) = true := by decide +kernel

/-- R760, R804: unprepared, at the address of the STOP; no cost. -/
theorem test_STOP_2 :
    runs { base zero with colorMode := true } [0x10, 0x00]
      (fun t => decide (t.fault = some (.stopWithoutSpeedPrep 0x0100)) && decide (t.regs.pc = 0x0102) && decide (t.cycles = 0) &&
        t.debugHalt) = true := by decide +kernel

/-- R765. -/
theorem test_INVALID :
    runs (base zero) [0xD3]
      (fun t => decide (t.fault = some (.invalidInstruction 0xD3)) && decide (t.regs.pc = 0x0101) && decide (t.cycles = 0)) = true := by
  decide +kernel

/-! ## Devices: vectors of 95_test_vectors -/

/-- The state moved to a cycle value at which its last pump stands too. -/
def at_ (s : State) (t : Nat) : State := { s with cycles := t, lastPump := t }

/-- The state after some bus writes. -/
def writes (s : State) (l : List (Word × Byte)) : State := l.foldl (fun s p => (s.memWrite p.1 p.2).state) s

/-- The base state with a cartridge of zeros: its controller, ROM banks and RAM size. -/
def withCart (c : BankController) (banks ram : Nat) : State :=
  { base zero with cart := ⟨.blank .zero, banks * 0x4000, banks, .blank .zero, ram, c⟩ }

/-- The MBC1 and MBC5 controllers at reset (20_memory R241, R250). -/
def mbc1 : BankController := .mbc1 ⟨false, 1, 0, false⟩
def mbc5 : BankController := .mbc5 ⟨false, 1, 0, 0⟩

/-- The physical ROM offset behind an address. -/
def offset (s : State) (a : Word) : Option Nat := s.cart.romOffset s.cfg a.toNat

/-- M2: a pedantic read of an unmapped address. -/
theorem test_unmapped_pedantic :
    runs { base zero with pedantic := true } [0xFA, 0xA0, 0xFE]
      (fun t => decide (t.fault = some (.busError 0xFEA0)) && decide (t.regs.pc = 0x0103) && decide (t.cycles = 0)) = true := by
  decide +kernel

/-- M5: the echo area mirrored. -/
theorem test_echo_mirror :
    runs (with_ { base zero with cfg.echoMode := .mirror } [(0xC000, 0x55)]) [0xFA, 0x00, 0xE0] (fun t => t.regs.a == 0x55) = true := by
  decide +kernel

/-- M7, M9, M10, M12: MBC1 banks. -/
theorem test_mbc1 :
    offset (writes (withCart mbc1 64 0) [(0x2000, 2), (0x2000, 0)]) 0x4000 = some 0x4000 ∧
    offset (writes (withCart mbc1 64 0) [(0x2000, 1), (0x4000, 1)]) 0x4000 = some (0x21 * 0x4000) ∧
    offset (writes (withCart mbc1 64 0) [(0x2000, 1), (0x4000, 1), (0x6000, 1)]) 0x0000 = some (0x20 * 0x4000) ∧
    offset (writes (withCart mbc1 4 0) [(0x2000, 5)]) 0x4000 = some 0x4000 := by decide +kernel

/-- M13, M14: MBC1 RAM gated, then enabled. -/
theorem test_mbc1_ram :
    (withCart mbc1 2 0x2000).memRead 0xA000 = .error (.protectionFault 0xA000) ∧
    (writes (withCart mbc1 2 0x2000) [(0x0000, 0x0A), (0xA000, 0x5A)]).memRead 0xA000 = .ok 0x5A := by decide +kernel

/-- M18, M19: MBC5 banks. -/
theorem test_mbc5 :
    offset (writes (withCart mbc5 512 0) [(0x2000, 5), (0x3000, 1)]) 0x4000 = some 0x414000 ∧
    offset (writes (withCart mbc5 512 0) [(0x2000, 0), (0x3000, 0)]) 0x4000 = some 0 := by decide +kernel

/-- Work RAM holding `i + 1` at C100 + i for i below 160. -/
def dmaSource : State := { base zero with wram := (Memory.blank .zero).load 0x100 ((List.range 160).map fun i => BitVec.ofNat 8 (i + 1)) }

/-- M22, M23: OAM DMA, and one stopped by a watchpoint. -/
theorem test_oamDma :
    (let t := writes dmaSource [(0xFF46, 0xC1)]
     (List.range 160).all fun i => t.video.oam.read i == BitVec.ofNat 8 (i + 1)) = true ∧
    (let t := writes { dmaSource with watchpoints := [0xC150] } [(0xFF46, 0xC1)]
     (t.video.oam.read 0x4F, t.video.oam.read 0x50)) = (0x50, 0x00) := by decide +kernel

/-- Color mode, the fast DMA's registers as M24 sets them, `0x40 + i` at C000 + i for i below 32. -/
def hdmaSource : State :=
  { base zero with
    colorMode := true
    hdma1 := 0xC0
    hdma2 := 0x0F
    hdma3 := 0x80
    hdma4 := 0x15
    wram := (Memory.blank .zero).load 0 ((List.range 32).map fun i => BitVec.ofNat 8 (i + 0x40)) }

/-- M24: fast VRAM DMA of 32 bytes to 8010. -/
theorem test_vramDma :
    (let t := writes hdmaSource [(0xFF55, 0x01)]
     ((List.range 32).all fun i => t.video.vram.read (0x10 + i) == BitVec.ofNat 8 (i + 0x40)) && t.video.vram.cells.length == 32) = true := by
  decide +kernel

/-- X1: VBlank before Timer, the handler's first instruction in the same step. -/
theorem test_dispatch :
    runs (with_ { base { zero with sp := 0xD000, pc := 0x0200 } with ime := true, ie := 0x05, ifr := 0x05 } [(0x0040, 0x00)]) []
      (fun t => is { zero with sp := 0xCFFE, pc := 0x0041 } 24 [(0xCFFF, 0x02), (0xCFFE, 0x00)] t && t.ifr == 0x04 && !t.ime) = true := by
  decide +kernel

/-- X4, X6: a halted processor wakes without service, or passes time to the drawing start. -/
theorem test_halted :
    runs { base zero with halted := true, ie := 0x01, ifr := 0x01 } [0x00]
      (fun t => t.regs.pc == 0x0101 && !t.halted && t.cycles == 4 && t.ifr == 0x01) = true ∧
    (match step { base zero with halted := true } with
     | .next t => t.halted && t.cycles == 80
     | _ => false) = true := by decide +kernel

/-- X9: an interrupt-breakpoint. -/
theorem test_intBreakpoint :
    (match step { base { zero with sp := 0xD000 } with intBreakpoints := [.vblank], ime := true, ie := 0x01, ifr := 0x01 } with
     | .next t => is { zero with sp := 0xCFFE, pc := 0x0040 } 20 [] t && t.debugHalt && decide (t.stepResult = .interruptBreakpoint .vblank)
     | _ => false) = true := by decide +kernel

/-- X11: an error of the push. -/
theorem test_dispatch_error :
    (match step { base { zero with sp := 0xD000 } with watchpoints := [0xCFFF], ime := true, ie := 0x01, ifr := 0x01 } with
     | .next t => decide (t.fault = some (.busError 0xCFFF)) && t.ifr == 0 && t.regs.sp == 0xCFFF && t.regs.pc == 0x0100 && t.ime
     | _ => false) = true := by decide +kernel

/-- X15, X16: the timer's overflow, and three increments in one pump. -/
theorem test_timer :
    runs (at_ { base zero with timer := ⟨0, 0xFF, 0xAB, 5, 116⟩ } 112) [0x00]
      (fun t => decide (t.timer = ⟨0, 0xAB, 0xAB, 5, 132⟩) && t.ifr == 0x04) = true ∧
    ((at_ { base zero with timer := ⟨0, 0, 0, 5, 200⟩ } 199).pump 240).timer = ⟨0, 3, 0, 5, 248⟩ := by decide +kernel

/-- X25: both groups selected, Right and B pressed. -/
theorem test_buttons :
    (writes (((base zero).activateButton .right).activateButton .b) [(0xFF00, 0x00)]).input.low6 = 0x0C := by decide +kernel

/-- V1 to V11: line, dot and mode. -/
theorem test_timing :
    [0, 79, 80, 251, 252, 455, 456, 65663, 65664, 70223, 70224].map
      (fun t => ((base zero).lineAt t, (base zero).dotAt t, (base zero).modeAt t)) =
    [(0, 0, 2), (0, 79, 2), (0, 80, 3), (0, 251, 3), (0, 252, 0), (0, 455, 0), (1, 0, 2), (143, 455, 0), (144, 0, 1), (153, 455, 1),
     (0, 0, 2)] := by decide +kernel

/-- V12, V14 to V17: the STAT requests of modes 0, 1 and 2, VBlank with and without one, and the line compare. -/
theorem test_videoRequests :
    ((base zero).pump 252).ifr = 0x00 ∧ ({ base zero with video.stat := 1 }.pump 252).ifr = 0x02 ∧
    ((at_ (base zero) 65600).pump 65700).ifr = 0x01 ∧ ((at_ { base zero with video.stat := 2 } 65600).pump 65700).ifr = 0x03 ∧
    ((at_ { base zero with video.stat := 4 } 400).pump 456).ifr = 0x02 ∧
    ((at_ { base zero with video.stat := 8, video.lyc := 2, video.prevMatch := false } 900).pump 912).ifr = 0x02 := by decide +kernel

/-- V24, V29: a background pixel, and sprite 1 seen through a transparent pixel of sprite 0. -/
theorem test_pixels :
    (let t := (with_ (base zero) [(0x9800, 0x01), (0x8010, 0x80), (0x8011, 0x80)]).pump 252
     (t.video.back.pixel 0 0, t.video.back.pixel 1 0)) = (⟨0, 0, 0⟩, ⟨255, 255, 255⟩) ∧
    (let t := (with_ { base zero with video.lcdc := 0x93, video.obp0 := 0xE4, video.obp1 := 0x08 }
      [(0xFE00, 16), (0xFE01, 8), (0xFE02, 2), (0xFE04, 16), (0xFE05, 8), (0xFE06, 3), (0xFE07, 0x10), (0x8020, 0x7F),
       (0x8030, 0xFF)]).pump 252
     (t.video.back.pixel 0 0, t.video.back.pixel 1 0)) = (⟨85, 85, 85⟩, ⟨170, 170, 170⟩) := by decide +kernel

/-- A3 to A5: channel 1's duty steps. -/
theorem test_pulse :
    [0, 3576, 5960].map { (base zero).audio with nr11 := 0x80, ch1 := ⟨true, 64, 0⟩, sweep := ⟨1750, 0⟩, env1 := ⟨15, 0⟩ }.amplitude1 =
      [15, 0, 15] := by decide +kernel

/-- A8, A9: the sweep clamps at 2047, and subtracts. -/
theorem test_sweep :
    { (base zero).audio with nr10 := 0x11, sweep := ⟨2000, 0⟩ }.sweepEdge.sweep.freq = 2047 ∧
    { (base zero).audio with nr10 := 0x1A, sweep := ⟨100, 0⟩ }.sweepEdge.sweep.freq = 75 := by decide +kernel

/-- A17, A18: the shift register in both widths. -/
theorem test_noise :
    lfsrClocks false 15 0x7FFF = 0x4000 ∧
    (List.range 8).map (fun k => lfsrClocks true (k + 1) 0x7FFF) =
      [0x3FBF, 0x1F9F, 0x0F8F, 0x0787, 0x0383, 0x0181, 0x40C0, 0x2020] := by decide +kernel

/-- Z2, Z3, Z7 to Z9: which construction succeeds, and in which mode. -/
theorem test_construct :
    (construct ((List.replicate 0x150 (0 : Byte)).set 0x143 0x80) .standard true).map (·.regs) = some .bootColor ∧
    (construct ((List.replicate 0x150 (0 : Byte)).set 0x143 0xC0) .standard false).map (·.colorMode) = some false ∧
    construct ((List.replicate 0x150 (0 : Byte)).set 0x147 0x05) .standard true = none ∧
    construct (List.replicate 0x100 (0 : Byte)) .standard true = none ∧
    construct ((List.replicate 0x150 (0 : Byte)).set 0x148 0x09) .standard true = none := by decide +kernel

/-- The hardware column of R1004 as `RESET_IO`: DIV AB, VBlank requested, mode 1 (here line 153), both button groups selected,
channel 1 on, DMA FF. -/
def hardwareColumn : Setup :=
  { Setup.standard with
    io := { ResetIo.standard with
      ifr := 0x01
      dma := 0xFF
      timer := { ResetIo.standard.timer with divBase := 21760 }
      input := { ResetIo.standard.input with select := 0 }
      video := { ResetIo.standard.video with videoBase := 400 }
      audio := { ResetIo.standard.audio with nr11 := 0xBF, nr12 := 0xF3, ch1 := ⟨true, 1, 0⟩ } } }

/-- R1004, R13: what that construction reads at CYCLES = 0 (open bits masked out). -/
theorem test_hardwareColumn :
    (construct (List.replicate 0x150 (0 : Byte)) hardwareColumn false).map (fun s =>
      [s.ioRead 0 .p1, s.ioRead 0 .div, s.ioRead 0 .ifr, s.ioRead 0 .stat, s.ioRead 0 .dma, s.ioRead 0 (.audio .nr52)]) =
    some [0x0F, 0xAB, 0x01, 0x05, 0xFF, 0x81] := by decide +kernel

/-! ## Witnesses: states and operands that meet the hypotheses of the statements, clause by clause -/

/-- The base state's memories are in canonical form. -/
theorem base_wf (r : Regs) : (base r).MemoriesWf := ⟨rfl, rfl, rfl, rfl, rfl, rfl, rfl, rfl, rfl⟩

/-- BootProcessor, BootDevices, ConstructionSucceeds, InvAtStart: constructions in both modes. -/
theorem witness_construct :
    (construct (List.replicate 0x150 (0 : Byte)) .standard true).map (·.colorMode) = some false ∧
    (construct ((List.replicate 0x150 (0 : Byte)).set 0x143 0x80) .standard true).map (·.colorMode) = some true := by decide +kernel

/-- StepKeepsInv, FlagNibbleZero, SetupConstantTimeForward: a state with the invariant that steps. -/
theorem witness_inv : (base zero).Inv ∧ ∃ t, step (base zero) = .next t :=
  ⟨⟨base_wf _, rfl, fun _ => ⟨rfl, rfl⟩, (by intro r h; cases h), rfl, (by intro h; cases h), Nat.le_refl _, fun _ => rfl⟩, _, rfl⟩

/-- SetupConstantTimeForward: monochrome mode at normal speed. -/
theorem witness_mono : (base zero).colorMode = false ∧ (base zero).doubleSpeed = false ∧ (base zero).speedPrep = false := ⟨rfl, rfl, rfl⟩

/-- DecodeEncode, DecodeInverts: well-formed instructions of each length, and bytes that are too few. -/
theorem witness_decode :
    Instr.nop.wellFormed = true ∧ (Instr.invalid 0xED).wellFormed = true ∧ decode [0xCB, 0x11, 0x00] = .ok (.rlC, [0x00]) ∧
    instrLength 0xC3 = 3 ∧ decode [0xC3, 0x00] = .error .truncated := by decide

/-- HL at the first byte of work RAM, of high RAM, of OAM, of video RAM and of enabled external RAM. -/
def atHL (h l : Byte) : State := base { zero with a := 0x5A, h := h, l := l }

/-- The base state with a watchpoint, so that an access there raises. -/
def watched (a : Word) (r : Regs) : State := { base r with watchpoints := [a] }

/-- MemoryLoads, SteppingAccesses, AddAdc and the rest, BitTest: a read that completes and one that raises. -/
theorem witness_read :
    (atHL 0xC0 0x00).memRead (atHL 0xC0 0x00).hl = .ok 0x00 ∧
    (watched 0xDFFF { zero with h := 0xDF, l := 0xFF }).memRead (watched 0xDFFF { zero with h := 0xDF, l := 0xFF }).hl =
      .error (.busError 0xDFFF) := by decide +kernel

/-- MemoryLoads: every form is a load. -/
theorem witness_loads : ByteLoad (atHL 0xC0 0x00) (ldRegAtHL .h) .h 0xC000 [0x66] 8 ∧ ByteLoad (base zero) (.ldAAtA16 0xFFFF) .a 0xFFFF [0xFA, 0xFF, 0xFF] 16 ∧
    ByteLoad (base zero) .ldAAtC .a 0xFF00 [0xF2] 8 ∧ ByteLoad (base zero) (.ldhAAtA8 0x80) .a 0xFF80 [0xF0, 0x80] 12 ∧
    ByteLoad (base zero) .ldAAtBC .a 0x0000 [0x0A] 8 ∧ ByteLoad (base zero) .ldAAtDE .a 0x0000 [0x1A] 8 :=
  ⟨.atHL .h, .atA16 0xFFFF, .atC, .atA8 0x80, .atBC, .atDE⟩

/-- MemoryStores: every form is a store. -/
theorem witness_stores : ByteStore (atHL 0xC0 0x00) (ldAtHLReg .h) 0xC000 0xC0 [0x74] 8 ∧ ByteStore (atHL 0xC0 0x00) (.ldAtHLImm8 0x01) 0xC000 0x01 [0x36, 0x01] 12 ∧
    ByteStore (base zero) (.ldAtA16A 0xFFFF) 0xFFFF 0x00 [0xEA, 0xFF, 0xFF] 16 ∧ ByteStore (base zero) .ldAtCA 0xFF00 0x00 [0xE2] 8 ∧
    ByteStore (base zero) (.ldhAtA8A 0x80) 0xFF80 0x00 [0xE0, 0x80] 12 ∧ ByteStore (base zero) .ldAtBCA 0x0000 0x00 [0x02] 8 ∧
    ByteStore (base zero) .ldAtDEA 0x0000 0x00 [0x12] 8 :=
  ⟨.atHL .h, .atHLImm 0x01, .atA16 0xFFFF, .atC, .atA8 0x80, .atBC, .atDE⟩

/-- MemoryStores, SteppingAccesses, ModifiesAtHL: addresses that reach RAM, at both ends of each memory. -/
theorem witness_ram :
    RamAt (base zero) 0xC000 ∧ RamAt (base zero) 0xDFFF ∧ RamAt (base zero) 0xFF80 ∧ RamAt (base zero) 0xFFFE ∧
    RamAt (base zero) 0x8000 ∧ RamAt (base zero) 0x9FFF ∧ RamAt (base zero) 0xFE00 ∧ RamAt (base zero) 0xFE9F ∧
    RamAt (withCart (.mbc1 ⟨true, 1, 0, false⟩) 2 0x2000) 0xA000 :=
  ⟨⟨rfl, .wram, 0, rfl⟩, ⟨rfl, .wram, 0x1FFF, rfl⟩, ⟨rfl, .hram, 0, rfl⟩, ⟨rfl, .hram, 0x7E, rfl⟩, ⟨rfl, .vram, 0, rfl⟩,
    ⟨rfl, .vram, 0x1FFF, rfl⟩, ⟨rfl, .oam, 0, rfl⟩, ⟨rfl, .oam, 0x9F, rfl⟩, ⟨rfl, .extRam, 0, rfl⟩⟩

/-- MemoryStores, SteppingAccesses, ModifiesAtHL: a write that completes, and one that raises, also after a read that completes. -/
theorem witness_write :
    (∃ t, (atHL 0xC0 0x00).memWrite 0xC000 0x5A = .ok t) ∧
    (∃ t, (watched 0xC000 zero).memWrite 0xC000 0x5A = .err (.busError 0xC000) t) ∧
    (∃ t, { hdmaSource with watchpoints := [0xC010] }.memRead 0xFF55 = .ok 0xFF ∧
      { hdmaSource with watchpoints := [0xC010] }.memWrite 0xFF55 0xFE = .err (.busError 0xC010) t) :=
  ⟨⟨_, rfl⟩, ⟨_, rfl⟩, ⟨_, rfl, rfl⟩⟩

/-- SteppingAccesses: the four instructions and what they leave in HL, at its wraps. -/
theorem witness_stepping :
    (Instr.ldAAtHLInc = .ldAAtHLInc ∧ (0x0000 : Word) = (atHL 0xFF 0xFF).hl + 1) ∧
    (Instr.ldAtHLDecA = .ldAtHLDecA ∧ (0xFFFF : Word) = (atHL 0x00 0x00).hl - 1) := by decide +kernel

/-- WordLoads: LD (a16),SP with both writes done, the first raising, the second raising, and in RAM. -/
theorem witness_storeSp :
    (∃ t u, (base zero).memWrite 0xDFFE 0xFE = .ok t ∧ t.memWrite 0xDFFF 0xFF = .ok u) ∧
    (∃ t, (watched 0xDFFE zero).memWrite 0xDFFE 0xFE = .err (.busError 0xDFFE) t) ∧
    (∃ t u, (watched 0xDFFF zero).memWrite 0xDFFE 0xFE = .ok t ∧ t.memWrite 0xDFFF 0xFF = .err (.busError 0xDFFF) u) ∧
    RamAt (base zero) 0xDFFE ∧ (base zero).target 0xDFFE ≠ (base zero).target 0xDFFF :=
  ⟨⟨_, _, rfl, rfl⟩, ⟨_, rfl⟩, ⟨_, _, rfl, rfl⟩, ⟨rfl, .wram, 0x1FFE, rfl⟩, by decide⟩

/-- PushPop, Calls, DispatchEnters: a stack in high RAM, its first write raising, its second raising. -/
theorem witness_push :
    (∃ t u, ((base zero).setSp 0xFFFD).memWrite 0xFFFD 0x01 = .ok t ∧ (t.setSp 0xFFFC).memWrite 0xFFFC 0x00 = .ok u) ∧
    (∃ t, ((watched 0xFFFD zero).setSp 0xFFFD).memWrite 0xFFFD 0x01 = .err (.busError 0xFFFD) t) ∧
    (∃ t u, ((watched 0xFFFC zero).setSp 0xFFFD).memWrite 0xFFFD 0x01 = .ok t ∧
      (t.setSp 0xFFFC).memWrite 0xFFFC 0x00 = .err (.busError 0xFFFC) u) ∧
    RamAt (base zero) 0xFFFD ∧ RamAt (base zero) 0xFFFC ∧ (base zero).target 0xFFFD ≠ (base zero).target 0xFFFC :=
  ⟨⟨_, _, rfl, rfl⟩, ⟨_, rfl⟩, ⟨_, _, rfl, rfl⟩, ⟨rfl, .hram, 0x7D, rfl⟩, ⟨rfl, .hram, 0x7C, rfl⟩, by decide⟩

/-- PushPop, Returns: both reads done, the first raising, the second raising, SP at its wrap. -/
theorem witness_pop :
    ((base { zero with sp := 0xFFFF }).memRead 0xFFFF = .ok 0 ∧ (base { zero with sp := 0xFFFF }).memRead (0xFFFF + 1) = .ok 0) ∧
    (watched 0xFFFE zero).memRead 0xFFFE = .error (.busError 0xFFFE) ∧
    ((watched 0xFFFF zero).memRead 0xFFFE = .ok 0 ∧ (watched 0xFFFF zero).memRead (0xFFFE + 1) = .error (.busError 0xFFFF)) := by
  decide +kernel

/-- AddAdc, SubSbcCp, AndXorOr: the three operand forms. -/
theorem witness_alu :
    AluForm (base zero) .adc (aluReg .adc .a) 0x00 [0x8F] 4 ∧ AluForm (atHL 0xC0 0x00) .cp (aluAtHL .cp) 0x00 [0xBE] 8 ∧
    AluForm (base zero) .xor (aluImm .xor 0xFF) 0xFF [0xEE, 0xFF] 8 :=
  ⟨.reg .a, .atHL 0x00 (by decide +kernel), .imm 0xFF⟩

/-- DecimalAdjustIsDecimal: the ends of the range. -/
theorem witness_decimal : (0 : Nat) < 100 ∧ (99 : Nat) < 100 := by decide

/-- Jumps, Calls, Returns: each condition met and not met. -/
theorem witness_conditions :
    (condHolds ⟨false, false, false, false⟩ .nz ∧ condHolds ⟨true, false, false, false⟩ .z ∧ condHolds ⟨false, false, false, false⟩ .nc ∧
      condHolds ⟨false, false, false, true⟩ .c) ∧
    ¬condHolds ⟨true, false, false, false⟩ .nz ∧ ¬condHolds ⟨false, false, false, false⟩ .z ∧ ¬condHolds ⟨false, false, false, true⟩ .nc ∧
    ¬condHolds ⟨false, false, false, false⟩ .c := by simp [condHolds]

/-- SystemInstructions, StopSwitchesSpeed: both values of `EI_DELAY`; a prepared and an unprepared switch. -/
theorem witness_system :
    (base zero).cfg.eiDelay = true ∧ { base zero with cfg.eiDelay := false }.cfg.eiDelay = false ∧
    ({ base zero with colorMode := true, speedPrep := true }.colorMode = true ∧
      { base zero with colorMode := true, speedPrep := true }.speedPrep = true) ∧
    ¬((base zero).colorMode = true ∧ (base zero).speedPrep = true) := by decide +kernel

/-- A step of the base state reaches its instruction. -/
theorem base_runs (r : Regs) : (base r).Runs := ⟨rfl, by simp [base, State.reset], rfl, .inl rfl⟩

/-- InvalidOpcode: an invalid byte at PC, in work RAM. -/
theorem witness_invalid :
    let s := with_ (base { zero with pc := 0xC000 }) [(0xC000, 0xFD)]
    (Instr.invalid 0xFD).wellFormed = true ∧ s.Runs ∧ s.memRead 0xC000 = .ok 0xFD := by
  have h : (with_ (base { zero with pc := 0xC000 }) [(0xC000, 0xFD)]).breakpoints = [] := by decide +kernel
  exact ⟨rfl, ⟨rfl, by rw [h]; exact List.not_mem_nil, rfl, .inl rfl⟩, by decide +kernel⟩

/-- StopSwitchesSpeed: a STOP in work RAM, in color mode, with the switch prepared; and one in the base state, with none. -/
theorem witness_stop :
    (let s : State :=
      { with_ (base { zero with pc := 0xC000 }) [(0xC000, 0x10), (0xC001, 0x00)] with
        breakpoints := [], colorMode := true, speedPrep := true }
    s.Runs ∧ s.cfg.cycleCost = [] ∧ s.colorMode = true ∧ s.speedPrep = true ∧ s.memRead 0xC000 = .ok 0x10 ∧
      s.memRead 0xC001 = .ok 0x00) ∧
    ¬((base zero).colorMode = true ∧ (base zero).speedPrep = true) :=
  ⟨⟨⟨rfl, List.not_mem_nil, rfl, .inl rfl⟩, rfl, rfl, rfl, by decide +kernel, by decide +kernel⟩, by decide⟩

/-- Eight bytes of zeros at PC: NOP. -/
theorem base_bytes : (base zero).BytesAt 0x0100 [0x00] := by
  intro k h
  have : k = 0 := by simpa using h
  subst this
  rfl

/-- StepRunsDecoded: an instruction at PC that completes, and one that raises. -/
theorem witness_step :
    ((base zero).Runs ∧ decode [0x00] = .ok (.nop, []) ∧ (base zero).BytesAt 0x0100 [0x00] ∧
      ∃ u, exec .nop ((base zero).setPc 0x0101) = .next u ∧ u.fault = none) ∧
    ∃ u, exec (.stop 0x00) ((base zero).setPc 0x0102) = .next u ∧ u.fault ≠ none :=
  ⟨⟨base_runs _, rfl, base_bytes, _, rfl, rfl⟩, _, rfl, by simp [State.raise]⟩

/-- ErrorsEndTheMachine, ControlBitWriters: a faulted state, and a step and an instruction that answer a next state. -/
theorem witness_faulted :
    ((base zero).raise (.busError 0x8000)).fault = some (.busError 0x8000) ∧
    (∃ t, step (with_ (base { zero with pc := 0xC000 }) [(0xC000, 0xD3)]) = .next t ∧ t.fault = some (.invalidInstruction 0xD3)) ∧
    (base zero).fault = none ∧ ∃ t, exec .nop (base zero) = .next t :=
  ⟨rfl, ⟨_, rfl, rfl⟩, rfl, _, rfl⟩

/-- ErrorsEndTheMachine: a fetch that raises at the opcode, and one that raises at the second byte. -/
theorem witness_fetch_error :
    ({ base zero with watchpoints := [0x0100] } : State).Runs ∧
    ({ base zero with watchpoints := [0x0100] } : State).memRead 0x0100 = .error (.busError 0x0100) ∧
    (let s : State := { with_ (base { zero with pc := 0xC000 }) [(0xC000, 0x06)] with breakpoints := [], watchpoints := [0xC001] }
    s.Runs ∧ s.memRead 0xC000 = .ok 0x06 ∧ 1 < instrLength 0x06 ∧ s.memRead 0xC001 = .error (.busError 0xC001)) :=
  ⟨⟨rfl, List.not_mem_nil, rfl, .inl rfl⟩, rfl, ⟨rfl, List.not_mem_nil, rfl, .inl rfl⟩, by decide +kernel, by decide, rfl⟩

/-- A VBlank request enabled and pending in the base state, its handler the zeros at 0040. -/
def pendingVblank (ime : Bool) : State := { base zero with ie := 0x01, ifr := 0x01, ime := ime }

/-- InterruptPriority, DispatchEnters, InterruptStep: every hypothesis together. -/
theorem witness_interrupt :
    (pendingVblank true).fault = none ∧ (pendingVblank true).regs.pc ∉ (pendingVblank true).breakpoints ∧
    (pendingVblank true).serviceable = some .vblank ∧ IntKind.vblank ∉ (pendingVblank true).intBreakpoints ∧
    ∃ t u, State.dispatch { pendingVblank true with halted := false } .vblank = .ok t ∧ decode [0x00] = .ok (.nop, []) ∧
      t.memRead t.regs.pc = .ok 0x00 ∧ exec .nop { t with regs := { t.regs with pc := t.regs.pc + 1 } } = .next u ∧ u.fault = none :=
  ⟨rfl, by simp [pendingVblank, base, State.reset], rfl, by simp [pendingVblank, base, State.reset], _, _, rfl, rfl, rfl, rfl, rfl⟩

/-- DispatchEnters: the push raises. -/
theorem witness_dispatch_error : ∃ t, (watched 0xFFFD zero).dispatch .timer = .err (.busError 0xFFFD) t := ⟨_, rfl⟩

/-- HaltedSteps: an enabled request with IME 0, and none. -/
theorem witness_halted :
    ({ pendingVblank false with halted := true }.fault = none ∧ { pendingVblank false with halted := true }.ime = false ∧
      { pendingVblank false with halted := true }.IsPending .vblank ∧
      { pendingVblank false with halted := true }.regs.pc ∉ { pendingVblank false with halted := true }.breakpoints) ∧
    ∀ k, ¬{ base zero with halted := true }.IsPending k :=
  ⟨⟨rfl, rfl, ⟨rfl, rfl⟩, by simp [pendingVblank, base, State.reset]⟩, fun k h => by cases k <;> simp [State.IsPending, base, State.reset] at h⟩

/-- HaltedSteps, VideoInterrupts: an event of each device, and a span without a video event. -/
theorem witness_events :
    (base zero).EventAt 80 ∧ { base zero with timer := ⟨0, 0, 0, 5, 16⟩ }.EventAt 32 ∧ (base zero).EventAt 95 ∧
    ∀ n, (base zero).lastPump < n → n ≤ 79 → ¬(base zero).VideoEventAt n := by
  refine ⟨.inl ⟨rfl, .inr ⟨by decide +kernel, .inl (by decide +kernel)⟩⟩, .inr (.inl ⟨rfl, 1, rfl⟩), .inr (.inr ⟨0, .inl rfl⟩), ?_⟩
  have h : ∀ n, n < 80 → 0 < n → (base zero).dotAt n ≠ 0 ∧ (base zero).dotAt n ≠ 80 ∧ (base zero).dotAt n ≠ 252 := by decide +kernel
  intro n h0 h1 h2
  obtain ⟨a, b, c⟩ := h n (by omega) h0
  rcases h2.2 with d | ⟨_, d | d⟩
  · exact a d
  · exact b d
  · exact c d

/-- BreakpointStops. -/
theorem witness_breakpoint :
    { base zero with breakpoints := [0x0100] }.fault = none ∧ { base zero with breakpoints := [0x0100] }.halted = false ∧
    { base zero with breakpoints := [0x0100] }.regs.pc ∈ { base zero with breakpoints := [0x0100] }.breakpoints := by decide +kernel

/-- BreakpointStops: an interrupt-breakpoint on the kind the step dispatches. -/
theorem witness_intBreakpoint :
    let s : State := { pendingVblank true with intBreakpoints := [.timer, .vblank] }
    s.fault = none ∧ s.regs.pc ∉ s.breakpoints ∧ s.serviceable = some .vblank ∧ IntKind.vblank ∈ s.intBreakpoints ∧
      ∃ t, State.dispatch { s with halted := false } .vblank = .ok t :=
  ⟨rfl, by simp [pendingVblank, base, State.reset], rfl, by decide, _, rfl⟩

/-- EiDelay: NOP with an EI pending in the base state (`EI_DELAY = 1`). -/
theorem witness_eiDelay :
    { base zero with eiPending := true }.cfg.eiDelay = true ∧ { base zero with eiPending := true }.ime = false ∧
    { base zero with eiPending := true }.Runs ∧ { base zero with eiPending := true }.BytesAt 0x0100 [0x00] ∧
    ∃ t, step { base zero with eiPending := true } = .next t ∧ t.fault = none :=
  ⟨rfl, rfl, ⟨rfl, by simp [base, State.reset], rfl, .inl rfl⟩, base_bytes, _, rfl, by decide +kernel⟩

/-- EiDelay: EI and DI at PC. -/
theorem witness_eiDelay_ei_di :
    (∃ t, step (with_ (base { zero with pc := 0xC000 }) [(0xC000, 0xFB)]) = .next t ∧ t.fault = none ∧ t.eiPending = true) ∧
    ∃ t, step (with_ (base { zero with pc := 0xC000 }) [(0xC000, 0xF3)]) = .next t ∧ t.fault = none ∧ t.eiPending = false :=
  ⟨⟨_, rfl, by decide +kernel⟩, ⟨_, rfl, by decide +kernel⟩⟩

/-- AccessErrors: a watchpoint; an unmapped address in pedantic mode, tolerated there, and in normal mode; gated RAM. -/
theorem witness_access :
    (0xC000 : Word) ∈ (watched 0xC000 zero).watchpoints ∧
    ((base zero).watchHit 0xFEA0 = none ∧ (base zero).target 0xFEA0 = .unmapped ∧ (base zero).target 0xFEFF = .unmapped) ∧
    ({ base zero with pedantic := true }.pedantic = true ∧ (0xFEA0 : Word) ∉ { base zero with pedantic := true }.cfg.pedanticAllow) ∧
    (withCart mbc1 2 0x2000).target 0xA000 = .gated ∧ (withCart mbc1 2 0x2000).target 0xBFFF = .gated := by decide +kernel

/-- AccessErrors: a watchpoint under a mirrored address; a ROM shorter than the address without a bank controller, read and
written; external RAM absent and present without one. -/
theorem witness_access_cart :
    (let s : State := { watched 0xC000 zero with cfg.echoMode := .mirror }
    s.cfg.echoMode = .mirror ∧ (0xE000 : Word) ∉ s.watchpoints ∧ 0xE000 - 0x2000 ∈ s.watchpoints) ∧
    (let s : State := { withCart .direct 2 0 with cart.romLength := 0x150, pedantic := true }
    s.watchHit 0x7FFF = none ∧ s.target 0x7FFF = .rom ∧ s.romByte 0x7FFF = none ∧ s.romByte 0x0150 = none ∧
      s.romByte 0x014F = some 0 ∧ s.cart.controller = .direct ∧ (0x7FFF : Word) ∉ s.cfg.pedanticAllow ∧
      s.target 0xA000 = .unmapped ∧ s.target 0xBFFF = .unmapped) ∧
    (withCart .direct 2 0x800).target 0xA800 = .mem .extRam 0 ∧ (withCart .direct 2 0x2000).target 0xBFFF = .mem .extRam 0x1FFF := by
  decide +kernel

/-- AccessErrors: addresses that are readable and writable. -/
theorem witness_readable : (base zero).Readable 0x0000 ∧ (base zero).Readable 0x7FFF ∧ (base zero).Writable 0xC000 ∧ (base zero).Writable 0xFF40 :=
  ⟨⟨rfl, .inl (by decide +kernel)⟩, ⟨rfl, .inl (by decide +kernel)⟩, ⟨rfl, trivial⟩, ⟨rfl, by decide, by decide⟩⟩

/-- RamMap: the ends of each range, and its neighbours. -/
theorem witness_ramMap :
    (base zero).cfg.vramLock = false ∧ (base zero).target 0xCFFF = .mem .wram 0x0FFF ∧ (base zero).target 0xD000 = .mem .wram 0x1000 ∧
    (base zero).target 0xDFFF = .mem .wram 0x1FFF ∧ (base zero).target 0xE000 = .unmapped ∧ (base zero).target 0xFDFF = .unmapped ∧
    { base zero with cfg.echoMode := .mirror }.target 0xFDFF = .mem .wram 0x1DFF ∧ (base zero).target 0xFE9F = .mem .oam 0x9F ∧
    (base zero).target 0xFEA0 = .unmapped ∧ (base zero).target 0xFEFF = .unmapped ∧ (base zero).target 0xFF7F = .unmapped ∧
    (base zero).target 0xFF80 = .mem .hram 0 ∧ (base zero).target 0xFFFE = .mem .hram 0x7E ∧ (base zero).target 0xFFFF = .ie ∧
    (base zero).target 0x9FFF = .mem .vram 0x1FFF ∧ (base zero).target 0x7FFF = .rom := by decide +kernel

/-- RamMap in color mode: the selected work RAM and video RAM banks. -/
theorem witness_ramMap_color :
    { base zero with colorMode := true, svbk := 7 }.target 0xD000 = .mem .wram 0x7000 ∧
    { base zero with colorMode := true, svbk := 0 }.target 0xD000 = .mem .wram 0x1000 ∧
    { base zero with colorMode := true, video.vbk := 1 }.target 0x8000 = .mem .vram 0x2000 := by decide +kernel

/-- Mbc1Banks: the hypotheses, and each register at the ends of its range. -/
theorem witness_mbc1 :
    (withCart mbc1 4 0x2000).cart.controller = .mbc1 ⟨false, 1, 0, false⟩ ∧ (withCart mbc1 4 0x2000).watchpoints = [] ∧
    (withCart mbc1 4 0x2000).cfg.mbc1Mode = .hardware ∧
    ([(0x0000, 0x0A), (0x1FFF, 0xFA), (0x2000, 0x03), (0x3FFF, 0x03), (0x4000, 0x03), (0x5FFF, 0x03), (0x6000, 0x01), (0x7FFF, 0x01)]
      : List (Word × Byte)).map (fun p => (writes (withCart mbc1 4 0x2000) [p]).cart.controller) =
    [.mbc1 ⟨true, 1, 0, false⟩, .mbc1 ⟨true, 1, 0, false⟩, .mbc1 ⟨false, 3, 0, false⟩, .mbc1 ⟨false, 3, 0, false⟩,
      .mbc1 ⟨false, 1, 3, false⟩, .mbc1 ⟨false, 1, 3, false⟩, .mbc1 ⟨false, 1, 0, true⟩, .mbc1 ⟨false, 1, 0, true⟩] := by decide +kernel

/-- Mbc5Banks: the hypotheses, and each register at the ends of its range. -/
theorem witness_mbc5 :
    (withCart mbc5 4 0x2000).cart.controller = .mbc5 ⟨false, 1, 0, 0⟩ ∧ (withCart mbc5 4 0x2000).watchpoints = [] ∧
    (withCart mbc5 4 0x2000).cfg.mbc5BankZeroToOne = false ∧
    ([(0x0000, 0x0A), (0x1FFF, 0xFA), (0x2000, 0x03), (0x2FFF, 0x03), (0x3000, 0x03), (0x3FFF, 0x03), (0x4000, 0x13), (0x5FFF, 0x13),
      (0x6000, 0x03), (0x7FFF, 0x03)] : List (Word × Byte)).map (fun p => (writes (withCart mbc5 4 0x2000) [p]).cart.controller) =
    [.mbc5 ⟨true, 1, 0, 0⟩, .mbc5 ⟨true, 1, 0, 0⟩, .mbc5 ⟨false, 3, 0, 0⟩, .mbc5 ⟨false, 3, 0, 0⟩, .mbc5 ⟨false, 1, 1, 0⟩,
      .mbc5 ⟨false, 1, 1, 0⟩, .mbc5 ⟨false, 1, 0, 3⟩, .mbc5 ⟨false, 1, 0, 3⟩, .mbc5 ⟨false, 1, 0, 0⟩, .mbc5 ⟨false, 1, 0, 0⟩] := by
  decide +kernel

/-- Mbc1Banks, Mbc5Banks: ROM at both ends of its windows and beyond the image; external RAM gated, of one bank, of 2 KiB, absent. -/
theorem witness_mbcRam :
    offset (withCart mbc1 4 0) 0x3FFF = some 0x3FFF ∧ offset (withCart mbc1 4 0) 0x7FFF = some 0x7FFF ∧
    offset { withCart mbc1 4 0 with cart.romLength := 0x5000 } 0x5000 = none ∧
    offset { withCart mbc5 4 0 with cart.romLength := 0x5000 } 0x5000 = none ∧
    (withCart mbc1 2 0x800).target 0xA000 = .gated ∧ (withCart mbc5 2 0x2000).target 0xBFFF = .gated ∧
    ([0x2000, 0x800, 0].map fun n => (withCart (.mbc1 ⟨true, 1, 0, false⟩) 2 n).target 0xBFFF) =
      [.mem .extRam 0x1FFF, .mem .extRam 0x7FF, .unmapped] ∧
    ([0x2000, 0x800, 0].map fun n => (withCart (.mbc5 ⟨true, 1, 0, 0⟩) 2 n).target 0xA000) =
      [.mem .extRam 0, .mem .extRam 0, .unmapped] := by decide +kernel

/-- DmaCopies: no lock, a source page of work RAM, every byte readable. -/
theorem witness_oamDma :
    dmaSource.cfg.vramLock = false ∧ dmaSource.MemoriesWf ∧ dmaSource.watchpoints = [] ∧
    ∀ k, k < 160 → { dmaSource with draw := dmaSource.draw + 1, dma := 0xC1 }.memRead (BitVec.ofNat 16 (0xC1 * 256 + k)) =
      .ok (BitVec.ofNat 8 (k + 1)) :=
  ⟨rfl, ⟨by decide +kernel, rfl, rfl, rfl, rfl, rfl, rfl, rfl, rfl⟩, rfl, by decide +kernel⟩

/-- DmaCopies: a fast copy of 16 bytes from work RAM, every byte readable and none of it video RAM. -/
theorem witness_vramDma :
    hdmaSource.colorMode = true ∧ hdmaSource.cfg.vramLock = false ∧ hdmaSource.MemoriesWf ∧ hdmaSource.watchpoints = [] ∧
    ∀ k, k < 16 → { hdmaSource with draw := hdmaSource.draw + 1, hdma5 := 0x00 }.memRead (BitVec.ofNat 16 (0xC000 + k)) =
        .ok (BitVec.ofNat 8 (k + 0x40)) ∧
      { hdmaSource with draw := hdmaSource.draw + 1, hdma5 := 0x00 }.target (BitVec.ofNat 16 (0xC000 + k)) = .mem .wram k :=
  ⟨rfl, rfl, ⟨by decide +kernel, rfl, rfl, rfl, rfl, rfl, rfl, rfl, rfl⟩, rfl, by decide +kernel⟩

/-- DmaCopies: copies that stop, at a watched source and at a watched destination. -/
theorem witness_dma_stops :
    ((0xFF46 : Word) ∉ { dmaSource with watchpoints := [0xC150, 0xFE10] }.watchpoints ∧
      (0xFF55 : Word) ∉ { hdmaSource with watchpoints := [0x801F] }.watchpoints) ∧
    (∃ t, { dmaSource with watchpoints := [0xC150] }.memWrite 0xFF46 0xC1 = .err (.busError 0xC150) t) ∧
    (∃ t, { dmaSource with watchpoints := [0xFE10] }.memWrite 0xFF46 0xC1 = .err (.busError 0xFE10) t) ∧
    ∃ t, { hdmaSource with watchpoints := [0x801F] }.memWrite 0xFF55 0x01 = .err (.busError 0x801F) t :=
  ⟨by decide, ⟨_, rfl⟩, ⟨_, rfl⟩, _, rfl⟩

/-- SaveRamRoundTrip: two bytes of RAM. -/
theorem witness_sram : (withCart mbc1 2 2).MemoriesWf ∧ ([0x01, 0xFF] : List Byte).length = (withCart mbc1 2 2).cart.ramSize :=
  ⟨⟨rfl, rfl, rfl, rfl, rfl, rfl, rfl, rfl, rfl⟩, rfl⟩

/-- TimerCounts: the timer stopped and running, no overflow, an overflow at its last increment, and one before it. -/
theorem witness_timer :
    (base zero).timer.tac.getLsbD 2 = false ∧ { base zero with timer := ⟨0, 0, 0, 5, 16⟩ }.timer.tac.getLsbD 2 = true ∧
    ({ base zero with timer := ⟨0, 254, 7, 5, 16⟩ }.timerPump 31).timer = ⟨0, 255, 7, 5, 32⟩ ∧
    ({ base zero with timer := ⟨0, 255, 7, 5, 16⟩ }.timerPump 16).timer = ⟨0, 7, 7, 5, 32⟩ ∧
    ({ base zero with timer := ⟨0, 255, 7, 5, 16⟩ }.timerPump 32).timer = ⟨0, 8, 7, 5, 48⟩ := by decide +kernel

/-- Buttons, RegisterAccess, LineAndMode, AudioControl: no watchpoint; both modes; the timing running. -/
theorem witness_registers :
    (base zero).watchpoints = [] ∧ (base zero).colorMode = false ∧ hdmaSource.watchpoints = [] ∧ hdmaSource.colorMode = true ∧
    (base zero).cfg.lcdOffTiming = .continues ∧
    ((Button.right, 0) ∈ [(Button.right, 0), (.left, 1), (.up, 2), (.down, 3)] ∧
      (Button.start, 3) ∈ [(Button.a, 0), (.b, 1), (.select, 2), (.start, 3)]) := by decide +kernel

/-- RegisterAccess: the palette index steps after a write of data, wraps at 63, and stays without auto-increment. -/
theorem test_paletteIndex :
    (let s : State := { base zero with colorMode := true, video.bgPalette := .blank .zero, video.objPalette := .blank .zero }
    ((writes s [(0xFF68, 0xBF), (0xFF69, 0x12), (0xFF69, 0x34)]).video.bgPalette.cells,
      (writes s [(0xFF6A, 0x3F), (0xFF6B, 0x12), (0xFF6B, 0x34)]).video.objPalette.cells)) =
    ([(0, 0x34), (63, 0x12)], [(63, 0x34)]) := by decide +kernel

/-- The state of vector V29 before its pump: sprites 0 and 1 at the left of line 0, sprite 0's first pixel transparent. -/
def spriteState : State :=
  with_ { base zero with video.lcdc := 0x93, video.obp0 := 0xE4, video.obp1 := 0x08 }
    [(0xFE00, 16), (0xFE01, 8), (0xFE02, 2), (0xFE04, 16), (0xFE05, 8), (0xFE06, 3), (0xFE07, 0x10), (0x8020, 0x7F), (0x8030, 0xFF)]

/-- Rendering: a horizontal-blank start of lines 0 and 143 and the start of line 144; the LCD off; a line with no sprite pixel, and
one whose second sprite is the first that shows; the sprites of a line. -/
theorem witness_rendering :
    ((base zero).dotAt 252 = 252 ∧ (base zero).lineAt 252 = 0 ∧ (base zero).dotAt 65460 = 252 ∧ (base zero).lineAt 65460 = 143) ∧
    ((base zero).dotAt 65664 = 0 ∧ (base zero).lineAt 65664 = 144) ∧
    { base zero with video.lcdc := 0x11 }.video.lcdc.getLsbD 7 = false ∧ spriteState.video.lcdc.getLsbD 7 = true ∧
    (base zero).video.lineSprites none 0 = [] ∧ (base zero).video.lcdc.getLsbD 1 = false ∧ spriteState.video.lcdc.getLsbD 1 = true ∧
    (let v := spriteState.video
    v.lineSprites spriteState.cfg.spriteLimit 0 = [v.spriteCache 0] ++ v.spriteCache 1 :: [] ∧
      v.spriteIndex false (v.spriteCache 0) 0 0 = 0 ∧ v.spriteIndex false (v.spriteCache 1) 0 0 ≠ 0 ∧
      ¬((v.spriteCache 0).x ≤ 8 + 8 ∧ 8 + 8 < (v.spriteCache 0).x + 8) ∧ (v.spriteCache 0).x ≤ 7 + 8 ∧ 7 + 8 < (v.spriteCache 0).x + 8) ∧
    (base zero).cfg.cgbRgb = [] := by decide +kernel

/-- VideoInterrupts: the timing running; an event of each kind and its STAT bit, in the span of a pump; the compare's edge. -/
theorem witness_videoInterrupts :
    (base zero).lcdFrozen = false ∧ (base zero).lastPump < 252 ∧ (at_ (base zero) 65600).lastPump < 65664 ∧
    ((65664 : Int) - (base zero).video.videoBase) % 70224 = 144 * 456 ∧
    (((456 : Int) - (base zero).video.videoBase) % 70224 < 144 * 456 ∧ ((456 : Int) - (base zero).video.videoBase) % 456 = 0) ∧
    ((252 : Int) - (base zero).video.videoBase) % 456 = 252 ∧
    { base zero with video.stat := 7 }.video.stat.getLsbD 1 = true ∧ { base zero with video.stat := 7 }.video.stat.getLsbD 2 = true ∧
    { base zero with video.stat := 7 }.video.stat.getLsbD 0 = true ∧
    ((base zero).dotAt 456 = 0 ∧ (base zero).dotAt 80 = 80 ∧ (base zero).dotAt 252 = 252 ∧ (base zero).lineAt 252 < 144) ∧
    (let s : State := { base zero with video.prevMatch := false, video.stat := 8 }
    s.lineAt 0 = s.video.lyc.toNat ∧ s.video.prevMatch = false ∧ s.video.stat.getLsbD 3 = true) := by decide +kernel

/-- PumpFrame: a request that a pump must keep. -/
theorem witness_pump : { base zero with ifr := 0x10 }.ifr.getLsbD 4 = true := by decide

/-- AudioSilence: each reason for silence. -/
theorem witness_silence :
    { (base zero).audio with power := false }.power = false ∧ (base zero).audio.ch1.on = false ∧
    ({ (base zero).audio with nr14 := 0x40 }.nr14.getLsbD 6 = true ∧ { (base zero).audio with nr14 := 0x40 }.ch1.length = 0) ∧
    (base zero).audio.nr30.getLsbD 7 = false ∧ (base zero).audio.env1.volume = 0 := by decide +kernel

/-- AudioSteps: no edge due; each edge the next one, at a cycle value shared with the edges after it; the four channels sounding;
the default mixer. -/
theorem witness_audioSteps :
    (let u := (base zero).audio
    94 < u.nextSample ∧ 94 < u.nextLength ∧ 94 < u.nextEnvelope ∧ 94 < u.nextSweep) ∧
    (let u : Audio := { (base zero).audio with nextSample := 9, nextLength := 9, nextEnvelope := 9, nextSweep := 9 }
    u.nextSample ≤ 9 ∧ u.nextSample ≤ u.nextLength ∧ u.nextSample ≤ u.nextEnvelope ∧ u.nextSample ≤ u.nextSweep) ∧
    (let u : Audio := { (base zero).audio with nextLength := 9, nextEnvelope := 9, nextSweep := 9 }
    u.nextLength ≤ 9 ∧ u.nextLength < u.nextSample ∧ u.nextLength ≤ u.nextEnvelope ∧ u.nextLength ≤ u.nextSweep) ∧
    (let u : Audio := { (base zero).audio with nextEnvelope := 9, nextSweep := 9 }
    u.nextEnvelope ≤ 9 ∧ u.nextEnvelope < u.nextSample ∧ u.nextEnvelope < u.nextLength ∧ u.nextEnvelope ≤ u.nextSweep) ∧
    (let u : Audio := { (base zero).audio with nextSweep := 9 }
    u.nextSweep ≤ 9 ∧ u.nextSweep < u.nextSample ∧ u.nextSweep < u.nextLength ∧ u.nextSweep < u.nextEnvelope) ∧
    (let c : Channel := ⟨true, 1, 0⟩
    let u : Audio := { (base zero).audio with ch1 := c, ch2 := c, ch3 := c, ch4 := c, nr14 := 0x40, nr30 := 0x80 }
    u.power = true ∧ u.ch1.on = true ∧ (u.nr14.getLsbD 6 = true → u.ch1.length ≠ 0) ∧ u.ch2.on = true ∧ u.ch3.on = true ∧
      u.ch4.on = true ∧ u.nr30.getLsbD 7 = true) ∧
    (base zero).cfg.audioMix = [] := by decide +kernel

/-- A12, A14, A15: an envelope that falls at each edge, one of period 2, and a length counter that ends. -/
theorem test_envelope_length :
    ({ (base zero).audio with nr22 := 0xF1, env2 := ⟨15, 0⟩ }.envelopeEdge.envelopeEdge.env2 = ⟨13, 0⟩) ∧
    ({ (base zero).audio with nr22 := 0x52, env2 := ⟨5, 0⟩ }.envelopeEdge.env2 = ⟨5, 1⟩ ∧
      { (base zero).audio with nr22 := 0x52, env2 := ⟨5, 0⟩ }.envelopeEdge.envelopeEdge.env2 = ⟨4, 0⟩) ∧
    { (base zero).audio with nr14 := 0x40, ch1 := ⟨true, 1, 0⟩ }.lengthEdge.ch1 = ⟨true, 0, 0⟩ := by decide +kernel

end Sys2Proof.Tests
end

section
/-! What one step keeps (10_state R103, R110, R112, R115, R116; 60_exceptions R806, R810, R812): one relation between a state and
the state its step answers, proved once along `step_cases`; the invariant, F's low nibble and the constant setup are read off it. -/

namespace Sys2Proof.Machine

/-- The timer's next increment comes after now. -/
theorem State.lt_nextTimerEvent {s : State} {t n : Nat} (h : s.nextTimerEvent t = some n) : t < n := by
  have hp : ∀ tac : BitVec 3, 0 < tacPeriod tac := by decide
  unfold State.nextTimerEvent at h
  split at h
  · cases h
    exact (edgeAfter_least _ _ _ (hp _)).1
  · contradiction

/-- The next audio edge comes after now. -/
theorem State.lt_nextAudioEvent (s : State) (t : Nat) : t < s.nextAudioEvent t := by
  have h1 := (edgeAfter_least s.audio.nextSample _ t (samplePeriod_pos s.cfg)).1
  have h2 := (edgeAfter_least s.audio.nextLength 16384 t (by decide)).1
  have h3 := (edgeAfter_least s.audio.nextEnvelope 65536 t (by decide)).1
  have h4 := (edgeAfter_least s.audio.nextSweep 32768 t (by decide)).1
  exact lt_min (lt_min h1 h2) (lt_min h3 h4)

/-- The next video event, when the controller has one, comes after now. -/
theorem State.lt_nextVideoEvent {s : State} {t n : Nat} (h : s.nextVideoEvent t = some n) : t < n := by
  cases hf : s.lcdFrozen with
  | true => simp [State.nextVideoEvent, hf] at h
  | false =>
    obtain ⟨m, hm, hlt, _⟩ := s.nextVideoEvent_least t hf
    rw [hm] at h
    cases h
    exact hlt

/-- The next device event comes after now (60_exceptions R813). -/
theorem State.lt_nextEvent (s : State) (t : Nat) : t < s.nextEvent t := by
  have ha := s.lt_nextAudioEvent t
  have hd : ∀ o : Option Nat, (∀ n, o = some n → t < n) → t < o.getD (s.nextAudioEvent t) := by
    rintro (_ | n) h
    · exact ha
    · exact h n rfl
  exact lt_min ha (lt_min (hd _ fun _ => State.lt_nextVideoEvent) (hd _ fun _ => State.lt_nextTimerEvent))

/-- What a step from `s` to `t` keeps: the setup, each part of the invariant, and the order of time. -/
structure StepKeeps (s t : State) : Prop where
  setup : SameSetup s t
  cycles : s.cycles ≤ t.cycles
  pumped : s.lastPump = s.cycles → t.lastPump = t.cycles
  memories : s.MemoriesWf → t.MemoriesWf
  lowNibble : s.regs.f &&& 0x0F = 0 → t.regs.f &&& 0x0F = 0
  doubleSpeed : s.colorMode = false → t.doubleSpeed = s.doubleSpeed
  speedPrep : s.colorMode = false → t.speedPrep = s.speedPrep
  bank1 : (∀ r, s.cart.controller = .mbc1 r → r.bank1 ≠ 0) → ∀ r, t.cart.controller = .mbc1 r → r.bank1 ≠ 0
  halts : t.fault.isSome = true → t.debugHalt = true
  started : s.video.videoBase ≤ s.cycles → t.video.videoBase ≤ t.cycles
  delay : (s.cfg.eiDelay = false → s.eiPending = false) → t.cfg.eiDelay = false → t.eiPending = false

/-- A move in which no cycle passes is such a step, when it leaves no FAULT without DEBUG_HALT. -/
theorem Moves.stepKeeps {s t : State} (h : Moves s t) (hh : t.fault.isSome = true → t.debugHalt = true) : StepKeeps s t where
  setup := h.setup
  cycles := h.cycles.ge
  pumped hp := h.lastPump.trans (hp.trans h.cycles.symm)
  memories := h.safe.memories
  lowNibble := h.lowNibble
  doubleSpeed := h.speed
  speedPrep := h.safe.prep
  bank1 := h.safe.bank1
  halts := hh
  started := h.safe.started
  delay := h.delay

/-- Raising an error sets FAULT together with DEBUG_HALT, and touches nothing else a step keeps (R806). -/
theorem StepKeeps.raise {s t : State} (h : StepKeeps s t) (e : StepError) : StepKeeps s (t.raise e) where
  setup := ⟨h.setup.cfg, h.setup.colorMode, h.setup.pedantic, h.setup.watchpoints, h.setup.rom, h.setup.romLength,
    h.setup.romBanks, h.setup.ramSize⟩
  cycles := h.cycles
  pumped := h.pumped
  memories hm :=
    have ⟨h1, h2, h3, h4, h5, h6, h7, h8, h9⟩ := h.memories hm
    ⟨h1, h2, h3, h4, h5, h6, h7, h8, h9⟩
  lowNibble := h.lowNibble
  doubleSpeed := h.doubleSpeed
  speedPrep := h.speedPrep
  bank1 := h.bank1
  halts _ := rfl
  started := h.started
  delay := h.delay

/-- Time passes and the devices are pumped to the new cycle value (R812). -/
theorem StepKeeps.elapse {s t : State} (h : StepKeeps s t) {n : Nat} (hn : t.cycles ≤ n) (r : StepResult) :
    StepKeeps s ({ t with cycles := n, stepResult := r }.pump n) := by
  have hw : t.MemoriesWf → ({ t with cycles := n, stepResult := r }.pump n).MemoriesWf := fun ⟨h1, h2, h3, h4, h5, h6, h7, h8, h9⟩ =>
    State.pump_memoriesWf n ⟨h1, h2, h3, h4, h5, h6, h7, h8, h9⟩
  obtain ⟨g, front, back, m, x, k, u, d, -, hp⟩ := State.pump_frame { t with cycles := n, stepResult := r } n
  rw [hp] at hw ⊢
  exact {
    setup := ⟨h.setup.cfg, h.setup.colorMode, h.setup.pedantic, h.setup.watchpoints, h.setup.rom, h.setup.romLength,
      h.setup.romBanks, h.setup.ramSize⟩
    cycles := h.cycles.trans hn
    pumped := fun _ => rfl
    memories := fun hm => hw (h.memories hm)
    lowNibble := h.lowNibble
    doubleSpeed := h.doubleSpeed
    speedPrep := h.speedPrep
    bank1 := h.bank1
    halts := h.halts
    started := fun hv => (h.started hv).trans hn
    delay := h.delay }

/-- Charging a cost only adds to CYCLES (R811). -/
theorem StepKeeps.charge {s t : State} (h : StepKeeps s t) (c : Nat) (r : StepResult) : StepKeeps s (t.charge c r) :=
  h.elapse (Nat.le_add_right _ _) r

/-- Every step that answers a next state keeps all of it (R810). -/
theorem step_keeps {s t : State} (h : step s = .next t) : StepKeeps s t := by
  rcases step_cases s with ⟨e, _, hs⟩ | ⟨hf, hs⟩
  · rw [h] at hs
    contradiction
  · have still {u : State} (hm : Moves s u) : StepKeeps s u := hm.stepKeeps fun hu => by simp [hm.fault, hf] at hu
    rcases hs with hs | ⟨_, hs⟩ | ⟨u, hm, ⟨e, hs⟩ | ⟨c, r, _, hs⟩⟩ <;> rw [h] at hs <;> cases hs
    · exact still (.debug s _ _ _ _)
    · exact (still (Plain.refl s).moves).elapse (s.lt_nextEvent _).le .ok
    · exact (still hm).raise e
    · exact (still hm).charge c r

/-- Settles O5: each part of the invariant is kept by `StepKeeps`. -/
theorem stepKeepsInv : Obligations.StepKeepsInv := by
  intro s t hi hs
  have h := step_keeps hs
  exact {
    memories := h.memories hi.memories
    lowNibble := h.lowNibble hi.lowNibble
    monochrome := fun hc => by
      have hm := h.setup.colorMode.symm.trans hc
      exact ⟨(h.doubleSpeed hm).trans (hi.monochrome hm).1, (h.speedPrep hm).trans (hi.monochrome hm).2⟩
    bank1 := h.bank1 hi.bank1
    pumped := h.pumped hi.pumped
    halts := h.halts
    started := h.started hi.started
    noDelay := h.delay hi.noDelay }

/-- The low byte of AF is the flag byte (10_state R102). -/
theorem State.loByte_af (s : State) : loByte s.af = s.flagByte := loByte_concat _ _

/-- Settles O6: both reads mask the stored byte, and `StepKeeps` has the stored nibble. -/
theorem flagNibbleZero : Obligations.FlagNibbleZero := by
  refine ⟨fun s => ?_, fun s t hf hs => (step_keeps hs).lowNibble hf⟩
  have hb : s.flagByte &&& 0x0F = 0 := low_nibble_zero s.regs.f
  exact ⟨hb, (congrArg (· &&& 0x0F) s.loByte_af).trans hb⟩

/-- Settles O7: the setup, the order of time and the speed bits are parts of `StepKeeps`. -/
theorem setupConstantTimeForward : Obligations.SetupConstantTimeForward := by
  intro s t hs
  have h := step_keeps hs
  exact ⟨h.setup, h.cycles, fun hc hd hp => ⟨(h.doubleSpeed hc).trans hd, (h.speedPrep hc).trans hp⟩⟩

end Sys2Proof.Machine
end

section
/-! Which instructions write a control bit (10_state R109 to R112). -/

namespace Sys2Proof.Machine

/-- A `Plain` answer leaves every control bit and the clock alone, whether it completes or raises. -/
theorem PlainResult.control {s t : State} (h : PlainResult s (.next t)) :
    (t.ime = s.ime ∧ t.eiPending = s.eiPending) ∧ t.halted = s.halted ∧ t.doubleSpeed = s.doubleSpeed ∧
      t.cycles = s.cycles ∧ t.lastPump = s.lastPump := by
  obtain ⟨u, hp, h | ⟨e, h⟩⟩ := h <;> cases h <;>
    exact ⟨⟨hp.ime, hp.eiPending⟩, hp.halted, hp.doubleSpeed, hp.keeps.cycles, hp.keeps.lastPump⟩

/-- RETI leaves HALTED, DOUBLE_SPEED and the clock alone, whether it completes or raises. -/
theorem returnEnable_control {s t : State} (h : returnEnable s = .next t) :
    t.halted = s.halted ∧ t.doubleSpeed = s.doubleSpeed ∧ t.cycles = s.cycles ∧ t.lastPump = s.lastPump := by
  obtain ⟨u, e, hp, hu⟩ | ⟨u, hp, hu⟩ := returnEnable_eq s <;> rw [hu] at h <;> cases h <;>
    exact ⟨hp.halted, hp.doubleSpeed, hp.keeps.cycles, hp.keeps.lastPump⟩

/-- STOP leaves IME, EI_PENDING, HALTED and the clock alone, whether it switches the speed or raises. -/
theorem speedSwitch_control {s t : State} (h : speedSwitch s = .next t) :
    (t.ime = s.ime ∧ t.eiPending = s.eiPending) ∧ t.halted = s.halted ∧ t.cycles = s.cycles ∧ t.lastPump = s.lastPump := by
  unfold speedSwitch at h
  split at h <;> cases h <;> exact ⟨⟨rfl, rfl⟩, rfl, rfl, rfl⟩

/-- EI leaves HALTED, DOUBLE_SPEED and the clock alone, with the delay and without. -/
theorem enable_control {s t : State} (h : enable s = .next t) :
    t.halted = s.halted ∧ t.doubleSpeed = s.doubleSpeed ∧ t.cycles = s.cycles ∧ t.lastPump = s.lastPump := by
  cases h
  split <;> exact ⟨rfl, rfl, rfl, rfl⟩

/-- Settles O38: the five instructions that write a control bit one by one, all others by `exec_plain`. -/
theorem controlBitWriters : Obligations.ControlBitWriters := by
  intro i s t h
  cases hc : Control i with
  | false =>
    have hp := exec_plain i s hc
    rw [h] at hp
    obtain ⟨hi, hh, hd, hcl⟩ := hp.control
    exact ⟨fun _ _ _ => hi, fun _ => hh, fun _ => hd, hcl⟩
  | true =>
    unfold Control at hc
    split at hc
    · cases h
      exact ⟨fun n => absurd rfl n, fun _ => rfl, fun _ => rfl, rfl, rfl⟩
    · obtain ⟨hh, hd, hcl⟩ := enable_control h
      exact ⟨fun _ n => absurd rfl n, fun _ => hh, fun _ => hd, hcl⟩
    · obtain ⟨hh, hd, hcl⟩ := returnEnable_control h
      exact ⟨fun _ _ n => absurd rfl n, fun _ => hh, fun _ => hd, hcl⟩
    · cases h
      exact ⟨fun _ _ _ => ⟨rfl, rfl⟩, fun n => absurd rfl n, fun _ => rfl, rfl, rfl⟩
    · obtain ⟨hi, hh, hcl⟩ := speedSwitch_control h
      exact ⟨fun _ _ _ => hi, fun _ => hh, fun n => absurd rfl (n _), hcl⟩
    · contradiction

end Sys2Proof.Machine
end

section
/-! Construction from a header (20_memory R230, R231; 10_state R150; 60_exceptions R807). -/

namespace Sys2Proof.Machine

/-- The cartridge-type bytes that a machine can be built for are R230's twelve. -/
theorem controllerOf_isSome (kind : Byte) : (controllerOf kind).isSome = true ↔
    kind ∈ ([0x00, 0x08, 0x09, 0x01, 0x02, 0x03, 0x19, 0x1A, 0x1B, 0x1C, 0x1D, 0x1E] : List Byte) := by
  unfold controllerOf
  split_ifs <;> simp at * <;> tauto

/-- The ROM-size codes run from 0 to 8 (R231). -/
theorem romBanksOf_eq_some {code : Byte} {n : Nat} : romBanksOf code = some n ↔ code.toNat ≤ 8 ∧ 2 * 2 ^ code.toNat = n := by
  simp [romBanksOf]

/-- The RAM-size codes run from 0 to 5 (R231). -/
theorem ramSizeOf_eq_some {code : Byte} {n : Nat} : ramSizeOf code = some n ↔
    code.toNat ≤ 5 ∧ ([0, 2048, 8192, 32768, 131072, 65536] : List Nat).getD code.toNat 0 = n := by
  unfold ramSizeOf
  split
  case h_7 => exact ⟨nofun, fun ⟨hle, _⟩ => by interval_cases code.toNat <;> contradiction⟩
  all_goals simp [*]

/-- A header decodes exactly from an image that holds it, field by field. -/
theorem decodeHeader_eq_some {rom : List Byte} {h : Header} : decodeHeader rom = some h ↔
    0x150 ≤ rom.length ∧ controllerOf (rom.getD 0x147 0) = some h.controller ∧
      romBanksOf (rom.getD 0x148 0) = some h.romBanks ∧ ramSizeOf (rom.getD 0x149 0) = some h.ramSize ∧
      bitAt (rom.getD 0x143 0 : Byte) 7 = h.colorCapable := by
  obtain ⟨c, k, n, b⟩ := h
  unfold decodeHeader
  split
  · rename_i hl
    exact ⟨nofun, fun hd => absurd hl hd.1.not_gt⟩
  · rename_i hl
    simp [Option.bind_eq_some_iff, Nat.le_of_not_lt hl]

/-- A header decodes when the image holds it and each of its three bytes is known. -/
theorem decodeHeader_isSome {rom : List Byte} : (decodeHeader rom).isSome = true ↔
    0x150 ≤ rom.length ∧ (controllerOf (rom.getD 0x147 0)).isSome = true ∧ (romBanksOf (rom.getD 0x148 0)).isSome = true ∧
      (ramSizeOf (rom.getD 0x149 0)).isSome = true := by
  simp only [Option.isSome_iff_exists, decodeHeader_eq_some]
  constructor
  · rintro ⟨h, hl, hc, hk, hn, -⟩
    exact ⟨hl, ⟨_, hc⟩, ⟨_, hk⟩, ⟨_, hn⟩⟩
  · rintro ⟨hl, ⟨c, hc⟩, ⟨k, hk⟩, ⟨n, hn⟩⟩
    exact ⟨⟨c, k, n, _⟩, hl, hc, hk, hn, rfl⟩

/-- The default sample rate is admissible, so construction with the default parameters fails on the header alone. -/
theorem construct_standard_isSome (rom : List Byte) (request : Bool) :
    (construct rom .standard request).isSome = (decodeHeader rom).isSome := Option.isSome_map

/-- What construction with the default parameters makes of the header. -/
theorem construct_standard_header {rom : List Byte} {request : Bool} {s : State} (h : construct rom .standard request = some s) :
    ∃ d, decodeHeader rom = some d ∧ s.colorMode = (request && d.colorCapable) ∧ s.cart = .insert rom d := by
  obtain ⟨d, hd, rfl⟩ := Option.map_eq_some_iff.1 h
  exact ⟨d, hd, rfl, rfl⟩

/-- Settles O3: `decodeHeader` succeeds exactly on known codes, and `construct` adds no condition of its own. -/
theorem constructionSucceeds : Obligations.ConstructionSucceeds := by
  intro rom request
  constructor
  · rw [construct_standard_isSome, decodeHeader_isSome, controllerOf_isSome]
    simp only [Option.isSome_iff_exists, romBanksOf_eq_some, ramSizeOf_eq_some, exists_and_left, exists_eq', and_true]
  · intro s h
    obtain ⟨d, hd, hcolor, hcart⟩ := construct_standard_header h
    obtain ⟨-, -, hk, hn, hb⟩ := decodeHeader_eq_some.1 hd
    rw [hcolor, hcart, ← hb]
    exact ⟨rfl, (romBanksOf_eq_some.1 hk).2.symm, rfl, (ramSizeOf_eq_some.1 hn).2.symm⟩

end Sys2Proof.Machine
end

section
/-! The address map by ranges (20_memory R201, R216 to R219): the region of an address, what it reaches, and the watchpoint it
meets. -/

namespace Sys2Proof.Machine

/-- The first address of a region (R201). -/
def Region.lo : Region → Nat
  | .rom => 0
  | .vram => 0x8000
  | .extRam => 0xA000
  | .wramLow => 0xC000
  | .wramHigh => 0xD000
  | .echo => 0xE000
  | .oam => 0xFE00
  | .unusable => 0xFEA0
  | .io => 0xFF00
  | .hram => 0xFF80
  | .ie => 0xFFFF

/-- The address after the last of a region (R201). -/
def Region.hi : Region → Nat
  | .rom => 0x8000
  | .vram => 0xA000
  | .extRam => 0xC000
  | .wramLow => 0xD000
  | .wramHigh => 0xE000
  | .echo => 0xFE00
  | .oam => 0xFEA0
  | .unusable => 0xFF00
  | .io => 0xFF80
  | .hram => 0xFFFF
  | .ie => 0x10000

/-- Two regions are the same or lie apart. -/
theorem Region.eq_or_apart (q r : Region) : q = r ∨ q.hi ≤ r.lo ∨ r.hi ≤ q.lo := by
  cases q <;> cases r <;> decide

/-- An address lies in its region. -/
theorem regionOf_bounds (a : Word) : (regionOf a).lo ≤ a.toNat ∧ a.toNat < (regionOf a).hi := by
  have hlt := a.isLt
  simp only [regionOf]
  repeat' split
  all_goals exact ⟨by simp only [Region.lo]; omega, by simp only [Region.hi]; omega⟩

/-- The regions are the ranges of the address map (R201). -/
theorem regionOf_eq_iff {a : Word} {r : Region} : regionOf a = r ↔ r.lo ≤ a.toNat ∧ a.toNat < r.hi := by
  have hb := regionOf_bounds a
  exact ⟨fun h => h ▸ hb, fun h => (Region.eq_or_apart _ r).resolve_right (by omega)⟩

/-- Outside the echo area an access is to its own address. -/
theorem State.effective_of_not_echo (s : State) {a : Word} (h : regionOf a ≠ .echo) : s.effective a = a := if_neg fun hc => h hc.1

/-- With `ECHO_MODE = unmapped` every access is to its own address. -/
theorem State.effective_unmapped {s : State} (a : Word) (hm : s.cfg.echoMode = .unmapped) : s.effective a = a := by
  simp [State.effective, hm]

/-- With `ECHO_MODE = mirror` an access to the echo area is the access 2000 lower (R216). -/
theorem State.effective_mirror {s : State} {a : Word} (hm : s.cfg.echoMode = .mirror) (hr : regionOf a = .echo) :
    s.effective a = a - 0x2000 := if_pos ⟨hr, hm⟩

/-- What the echo area mirrors lies below it. -/
theorem mirrored_lt {a : Word} (hr : regionOf a = .echo) : (a - 0x2000).toNat < 0xDE00 := by
  obtain ⟨hlo, hhi⟩ := regionOf_eq_iff.1 hr
  simp only [Region.lo, Region.hi] at hlo hhi
  bv_omega

/-- A mirrored address is not mirrored again. -/
theorem State.effective_effective (s : State) (a : Word) : s.effective (s.effective a) = s.effective a := by
  by_cases h : regionOf a = .echo ∧ s.cfg.echoMode = .mirror
  · rw [State.effective_mirror h.2 h.1]
    refine s.effective_of_not_echo fun he => ?_
    exact absurd (regionOf_eq_iff.1 he).1 (Nat.not_le.2 ((mirrored_lt h.1).trans (by decide)))
  · rw [show s.effective a = a from if_neg h]
    exact if_neg h

theorem State.target_effective (s : State) (a : Word) : s.target (s.effective a) = s.target a := by
  unfold State.target
  rw [s.effective_effective]

section Ranges
variable (s : State) {a : Word}

theorem State.target_rom (h : a.toNat < 0x8000) : s.target a = .rom := by
  have hr : regionOf a = .rom := regionOf_eq_iff.2 ⟨Nat.zero_le _, h⟩
  simp [State.target, s.effective_of_not_echo, hr]

theorem State.target_vram (hl : s.vramLocked = false) (hr : regionOf a = .vram) :
    s.target a = .mem .vram (s.vramBank * 0x2000 + (a.toNat - 0x8000)) := by
  simp [State.target, s.effective_of_not_echo, hr, hl]

theorem State.target_extRam (hr : regionOf a = .extRam) : s.target a = extTarget s.cart a.toNat := by
  simp [State.target, s.effective_of_not_echo, hr]

theorem State.target_wramLow (hr : regionOf a = .wramLow) : s.target a = .mem .wram (a.toNat - 0xC000) := by
  simp [State.target, s.effective_of_not_echo, hr]

theorem State.target_wramHigh (hr : regionOf a = .wramHigh) :
    s.target a = .mem .wram (s.wramBank * 0x1000 + (a.toNat - 0xD000)) := by
  simp [State.target, s.effective_of_not_echo, hr]

theorem State.target_echo_unmapped (hm : s.cfg.echoMode = .unmapped) (hr : regionOf a = .echo) :
    s.target a = .unmapped := by
  simp [State.target, State.effective_unmapped, hm, hr]

theorem State.target_oam (hl : s.oamLocked = false) (hr : regionOf a = .oam) :
    s.target a = .mem .oam (a.toNat - 0xFE00) := by
  simp [State.target, s.effective_of_not_echo, hr, hl]

theorem State.target_unusable (hr : regionOf a = .unusable) : s.target a = .unmapped := by
  simp [State.target, s.effective_of_not_echo, hr]

theorem State.target_hram (hr : regionOf a = .hram) : s.target a = .mem .hram (a.toNat - 0xFF80) := by
  simp [State.target, s.effective_of_not_echo, hr]

theorem State.target_io (hr : regionOf a = .io) : s.target a = ioTarget s.colorMode (a.toNat - 0xFF00) := by
  simp [State.target, s.effective_of_not_echo, hr]

end Ranges

/-- External RAM addresses reach no other memory. -/
theorem extTarget_mem {c : Cart} {n : Nat} {i : MemId} {off : Nat} (h : extTarget c n = .mem i off) : i = .extRam := by
  unfold extTarget at h
  split at h <;> cases h
  rfl

/-- I/O addresses reach no memory. -/
theorem ioTarget_ne_mem (color : Bool) (n : Nat) (i : MemId) (off : Nat) : ioTarget color n ≠ .mem i off := by
  unfold ioTarget
  split <;> nofun

/-- A mirrored access goes to work RAM, so what an access to OAM names is its own address. -/
theorem State.effective_of_oam {s : State} {a : Word} (h : regionOf (s.effective a) = .oam) : s.effective a = a := by
  by_cases hm : regionOf a = .echo ∧ s.cfg.echoMode = .mirror
  · rw [State.effective_mirror hm.2 hm.1] at h
    exact absurd (regionOf_eq_iff.1 h).1 (Nat.not_le.2 ((mirrored_lt hm.1).trans (by decide)))
  · exact if_neg hm

/-- Only OAM addresses reach OAM, each at its offset (R218). -/
theorem State.offset_of_target_oam {s : State} {a : Word} {off : Nat} (ht : s.target a = .mem .oam off) :
    regionOf a = .oam ∧ off = a.toNat - 0xFE00 := by
  cases hr : regionOf (s.effective a) <;> simp only [State.target, hr, reduceCtorEq, Target.mem.injEq, false_and] at ht
  case vram => split at ht <;> cases ht
  case extRam => cases extTarget_mem ht
  case io => exact absurd ht (ioTarget_ne_mem _ _ _ _)
  case oam =>
    have he := State.effective_of_oam hr
    rw [he] at hr ht
    split at ht
    · cases ht
    · exact ⟨hr, (Target.mem.inj ht).2.symm⟩

/-- A watched address is its own hit. -/
theorem State.watchHit_of_mem {s : State} {a : Word} (h : a ∈ s.watchpoints) : s.watchHit a = some a :=
  if_pos (List.contains_iff_mem.2 h)

/-- An unwatched address hits when its effective address is watched. -/
theorem State.watchHit_of_effective {s : State} {a : Word} (h : a ∉ s.watchpoints) (he : s.effective a ∈ s.watchpoints) :
    s.watchHit a = some (s.effective a) :=
  (if_neg fun hc => h (List.contains_iff_mem.1 hc)).trans (if_pos (List.contains_iff_mem.2 he))

/-- Outside the echo area an address that is not watched meets no watchpoint. -/
theorem State.watchHit_eq_none {s : State} {a : Word} (h : a ∉ s.watchpoints) (he : s.effective a = a) : s.watchHit a = none := by
  simp [State.watchHit, he, h]

/-- Without watchpoints none is met. -/
theorem State.watchHit_of_nil {s : State} (a : Word) (h : s.watchpoints = []) : s.watchHit a = none := by
  simp [State.watchHit, h]

end Sys2Proof.Machine
end

section
/-! One access by what it reaches (20_memory R210, R211, R253), and which addresses raise. -/

namespace Sys2Proof.Machine

theorem State.memRead_watched {s : State} {a w : Word} (h : s.watchHit a = some w) : s.memRead a = .error (.busError w) := by
  simp only [State.memRead, h]

theorem State.memWrite_watched {s : State} {a w : Word} (v : Byte) (h : s.watchHit a = some w) :
    s.memWrite a v = .err (.busError w) s := by
  simp only [State.memWrite, h]

theorem State.memRead_gated {s : State} {a : Word} (hw : s.watchHit a = none) (ht : s.target a = .gated) :
    s.memRead a = .error (.protectionFault a) := by
  simp only [State.memRead, hw, ht]

theorem State.memWrite_gated {s : State} {a : Word} (v : Byte) (hw : s.watchHit a = none) (ht : s.target a = .gated) :
    s.memWrite a v = .err (.protectionFault a) s := by
  simp only [State.memWrite, hw, ht]

/-- A ROM window reads its byte, where the image has one (R233). -/
theorem State.memRead_rom {s : State} {a : Word} {v : Byte} (hw : s.watchHit a = none) (ht : s.target a = .rom)
    (hv : s.romByte a = some v) : s.memRead a = .ok v := by
  simp only [State.memRead, hw, ht, hv]

/-- A write to a ROM window with a bank controller goes to its registers. -/
theorem State.memWrite_rom {s : State} {a : Word} {v : Byte} {c : Cart} (hw : s.watchHit a = none) (ht : s.target a = .rom)
    (hc : s.cart.bankWrite a.toNat v = some c) : s.memWrite a v = .ok { s with cart := c } := by
  simp only [State.memWrite, hw, ht, hc]

/-- A write to an I/O register. -/
theorem State.memWrite_io {s : State} {a : Word} {r : IoReg} (v : Byte) (hw : s.watchHit a = none) (ht : s.target a = .io r) :
    s.memWrite a v = State.ioWrite { s with draw := s.draw + 1 } r v := by
  simp only [State.memWrite, hw, ht]

/-- A read of no owner, or of a ROM window beyond the image (R211, R233). -/
theorem State.memRead_unmapped {s : State} {a : Word} (hw : s.watchHit a = none)
    (ht : s.target a = .unmapped ∨ (s.target a = .rom ∧ s.romByte a = none)) : s.memRead a = s.unmappedRead a := by
  obtain ht | ⟨ht, hb⟩ := ht
  · simp only [State.memRead, hw, ht]
  · simp only [State.memRead, hw, ht, hb]

/-- A write to no owner, or to a ROM window without a bank controller (R211, R240). -/
theorem State.memWrite_unmapped {s : State} {a : Word} (v : Byte) (hw : s.watchHit a = none)
    (ht : s.target a = .unmapped ∨ (s.target a = .rom ∧ s.cart.controller = .direct)) : s.memWrite a v = s.unmappedWrite a := by
  obtain ht | ⟨ht, hc⟩ := ht
  · simp only [State.memWrite, hw, ht]
  · simp only [State.memWrite, hw, ht, Cart.bankWrite, hc]

/-- Only pedantic mode, outside the allow-list, does not tolerate an unmapped access (R211, R213, R214). -/
theorem State.tolerates_eq_false {s : State} {a : Word} :
    s.tolerates a = false ↔ s.pedantic = true ∧ a ∉ s.cfg.pedanticAllow := by
  simp [State.tolerates]

theorem State.unmappedRead_strict {s : State} {a : Word} (h : s.tolerates a = false) :
    s.unmappedRead a = .error (.busError a) := by
  simp only [State.unmappedRead, h, Bool.false_eq_true, if_false]

theorem State.unmappedRead_tolerated {s : State} {a : Word} (h : s.tolerates a = true) : s.unmappedRead a = .ok 0 := if_pos h

theorem State.unmappedWrite_strict {s : State} {a : Word} (h : s.tolerates a = false) :
    s.unmappedWrite a = .err (.busError a) s := by
  simp only [State.unmappedWrite, h, Bool.false_eq_true, if_false]

theorem State.unmappedWrite_tolerated {s : State} {a : Word} (h : s.tolerates a = true) : s.unmappedWrite a = .ok s := if_pos h

/-- No register write raises but that of the two DMA registers. -/
theorem State.ioWrite_ok (s : State) {r : IoReg} (v : Byte) (hd : r ≠ .dma) (hh : r ≠ .hdma5) : ∃ t, s.ioWrite r v = .ok t := by
  cases r
  case dma => exact absurd rfl hd
  case hdma5 => exact absurd rfl hh
  all_goals exact ⟨_, rfl⟩

/-- A bank controller takes every write to a ROM window. -/
theorem Cart.bankWrite_isSome {c : Cart} (a : Nat) (v : Byte) (h : c.controller ≠ .direct) : ∃ d, c.bankWrite a v = some d := by
  unfold Cart.bankWrite
  split
  · contradiction
  · exact ⟨_, rfl⟩
  · exact ⟨_, rfl⟩

/-- A readable address is read without an error. -/
theorem State.Readable.memRead_ok {s : State} {a : Word} (h : s.Readable a) : ∃ w, s.memRead a = .ok w := by
  obtain ⟨hw, h⟩ := h
  cases ht : s.target a <;> simp only [ht] at h
  case unmapped => exact ⟨0, (State.memRead_unmapped hw (.inl ht)).trans (State.unmappedRead_tolerated h)⟩
  case rom =>
    cases hb : s.romByte a with
    | some w => exact ⟨w, State.memRead_rom hw ht hb⟩
    | none =>
      have hn := h.resolve_left (absurd hb)
      exact ⟨0, (State.memRead_unmapped hw (.inr ⟨ht, hb⟩)).trans (State.unmappedRead_tolerated hn)⟩
  all_goals
    simp only [State.memRead, hw, ht]
    exact ⟨_, rfl⟩

/-- A writable address is written without an error. -/
theorem State.Writable.memWrite_ok {s : State} {a : Word} (h : s.Writable a) (v : Byte) : ∃ t, s.memWrite a v = .ok t := by
  obtain ⟨hw, h⟩ := h
  cases ht : s.target a <;> simp only [ht] at h
  case unmapped => exact ⟨s, (State.memWrite_unmapped v hw (.inl ht)).trans (State.unmappedWrite_tolerated h)⟩
  case rom =>
    by_cases hc : s.cart.controller = .direct
    · have hn := h.resolve_left (absurd hc)
      exact ⟨s, (State.memWrite_unmapped v hw (.inr ⟨ht, hc⟩)).trans (State.unmappedWrite_tolerated hn)⟩
    · obtain ⟨c, hd⟩ := Cart.bankWrite_isSome a.toNat v hc
      exact ⟨_, State.memWrite_rom hw ht hd⟩
  case io r => exact (State.memWrite_io v hw ht).symm ▸ State.ioWrite_ok _ v h.1 h.2
  all_goals
    simp only [State.memWrite, hw, ht]
    exact ⟨_, rfl⟩

/-- Without a bank controller the ROM windows show the image from its start (R240). -/
theorem State.romByte_direct {s : State} (a : Word) (hc : s.cart.controller = .direct) :
    s.romByte a = if a.toNat < s.cart.romLength then some (s.cart.rom.read a.toNat) else none := by
  simp only [State.romByte, Cart.romOffset, hc]
  split <;> rfl

/-- Without a bank controller external RAM is open, where the cartridge has it (R240). -/
theorem extTarget_direct {c : Cart} (n : Nat) (hc : c.controller = .direct) :
    extTarget c n = if c.ramSize = 0 then .unmapped else .mem .extRam ((n - 0xA000) % c.ramSize) := by
  simp only [extTarget, Cart.extAccess, hc]
  by_cases h : c.ramSize = 0 <;> simp [h]

/-- Settles O45: a case for each thing an access can meet, its watchpoint first. -/
theorem accessErrors : Obligations.AccessErrors := by
  intro s a v
  refine ⟨?watched, ?mirrored, ?unmappedRead, ?unmappedWrite, ?gated, fun h => h.memRead_ok,
    fun h => h.memWrite_ok v, ?rom, ?extRam⟩
  case watched =>
    intro h
    have hw := State.watchHit_of_mem h
    exact ⟨State.memRead_watched hw, State.memWrite_watched v hw⟩
  case mirrored =>
    intro hm hlo hhi hn h
    have he := State.effective_mirror hm (regionOf_eq_iff.2 ⟨hlo, hhi⟩)
    have hw := State.watchHit_of_effective hn (he ▸ h)
    rw [he] at hw
    exact ⟨State.memRead_watched hw, State.memWrite_watched v hw⟩
  case unmappedRead =>
    intro hw ht
    rw [State.memRead_unmapped hw ht, ← State.tolerates_eq_false, Bool.not_eq_false]
    exact ⟨State.unmappedRead_strict, State.unmappedRead_tolerated⟩
  case unmappedWrite =>
    intro hw ht
    rw [State.memWrite_unmapped v hw ht, ← State.tolerates_eq_false, Bool.not_eq_false]
    exact ⟨State.unmappedWrite_strict, State.unmappedWrite_tolerated⟩
  case gated => exact fun hw ht => ⟨State.memRead_gated hw ht, State.memWrite_gated v hw ht⟩
  case rom => exact fun h => ⟨s.target_rom h, State.romByte_direct a⟩
  case extRam => exact fun hlo hhi hc => (s.target_extRam (regionOf_eq_iff.2 ⟨hlo, hhi⟩)).trans (extTarget_direct a.toNat hc)

end Sys2Proof.Machine
end

section
/-! The memories of the map (20_memory R216 to R219). -/

namespace Sys2Proof.Machine

/-- The bank of D000 to DFFF: SVBK in color mode, with 0 read as 1; else 1 (R217). -/
theorem State.wramBank_eq (s : State) : s.wramBank = if s.colorMode ∧ s.svbk ≠ 0 then s.svbk.toNat else 1 := by
  unfold State.wramBank
  split_ifs <;> simp_all

/-- Settles O46: each range by its `target` lemma, the echo area by the address it mirrors. -/
theorem ramMap : Obligations.RamMap := by
  intro s a hl
  have hv : s.vramLocked = false := by simp [State.vramLocked, hl]
  have ho : s.oamLocked = false := by simp [State.oamLocked, hl]
  refine ⟨fun i off hw ht => ⟨State.memRead_mem hw ht, fun v => State.memWrite_mem v hw ht⟩, ?wramLow, ?wramHigh, ?echo, ?mirror,
    ?oam, ?unusable, ?hram, ?ie, ?vram⟩
  case wramLow => exact fun h h' => s.target_wramLow (regionOf_eq_iff.2 ⟨h, h'⟩)
  case wramHigh =>
    intro h h'
    rw [s.target_wramHigh (regionOf_eq_iff.2 ⟨h, h'⟩), s.wramBank_eq]
  case echo => exact fun h h' hm => s.target_echo_unmapped hm (regionOf_eq_iff.2 ⟨h, h'⟩)
  case mirror =>
    intro h h' hm
    rw [← State.effective_mirror hm (regionOf_eq_iff.2 ⟨h, h'⟩), s.target_effective]
  case oam => exact fun h h' => s.target_oam ho (regionOf_eq_iff.2 ⟨h, h'⟩)
  case unusable => exact fun h h' => s.target_unusable (regionOf_eq_iff.2 ⟨h, h'⟩)
  case hram => exact fun h h' => s.target_hram (regionOf_eq_iff.2 ⟨h, h'⟩)
  case ie =>
    rintro rfl
    rfl
  case vram => exact fun h h' => s.target_vram hv (regionOf_eq_iff.2 ⟨h, h'⟩)

end Sys2Proof.Machine
end

section
/-! The bank controllers (20_memory R233, R241 to R253): what a write of a register stores, the ROM byte of the selected bank, and
external RAM behind its gate. -/

namespace Sys2Proof.Machine

/-- The enable code in the value's low nibble (R241, R250). -/
theorem ramEnableCode_eq (v : Byte) : ramEnableCode v = decide (v.toNat % 16 = 10) := by
  have hm : v.toNat &&& 15 = v.toNat % 16 := Nat.and_two_pow_sub_one_eq_mod _ 4
  simp [ramEnableCode, ← BitVec.toNat_inj, hm]

/-- A field of the low bits is the value modulo a power of two. -/
theorem extractLsb_zero (v : Byte) (n : Nat) : v.extractLsb' 0 n = BitVec.ofNat n v.toNat := rfl

/-- The register an MBC1 write stores, by its range (R241, R242). -/
theorem Mbc1.write_eq (r : Mbc1) (a : Nat) (v : Byte) : r.write a v =
    if a < 0x2000 then { r with ramEnabled := decide (v.toNat % 16 = 10) }
    else if a < 0x4000 then { r with bank1 := if v.toNat % 32 = 0 then 1 else BitVec.ofNat 5 v.toNat }
    else if a < 0x6000 then { r with bank2 := BitVec.ofNat 2 v.toNat }
    else { r with mode := v.getLsbD 0 } := by
  have hz : (BitVec.ofNat 5 v.toNat = 0) = (v.toNat % 32 = 0) := by simp [← BitVec.toNat_inj]
  simp only [Mbc1.write, ramEnableCode_eq, extractLsb_zero, hz, bitAt]

/-- The register an MBC5 write stores, by its range (R250). -/
theorem Mbc5.write_eq (r : Mbc5) (a : Nat) (v : Byte) : r.write a v =
    if a < 0x2000 then { r with ramEnabled := decide (v.toNat % 16 = 10) }
    else if a < 0x3000 then { r with romb0 := v }
    else if a < 0x4000 then { r with romb1 := BitVec.ofNat 1 v.toNat }
    else if a < 0x6000 then { r with ramb := BitVec.ofNat 4 v.toNat }
    else r := by
  simp only [Mbc5.write, ramEnableCode_eq, extractLsb_zero]

/-- A register write of MBC1 changes the controller alone. -/
theorem Cart.bankWrite_mbc1 {c : Cart} {r : Mbc1} (a : Nat) (v : Byte) (hc : c.controller = .mbc1 r) :
    c.bankWrite a v = some { c with controller := .mbc1 (r.write a v) } := by
  simp only [Cart.bankWrite, hc]

/-- A register write of MBC5 changes the controller alone. -/
theorem Cart.bankWrite_mbc5 {c : Cart} {r : Mbc5} (a : Nat) (v : Byte) (hc : c.controller = .mbc5 r) :
    c.bankWrite a v = some { c with controller := .mbc5 (r.write a v) } := by
  simp only [Cart.bankWrite, hc]

section Unwatched
variable {s : State} {a : Word}

/-- Where the cartridge selects ROM offset `off` for an address below 8000, the address reads that byte of the image, and none
beyond it (R233). -/
theorem State.romWindow {off : Nat} (hw : s.watchpoints = []) (ha : a.toNat < 0x8000)
    (ho : s.cart.romOffset s.cfg a.toNat = if off < s.cart.romLength then some off else none) :
    (off < s.cart.romLength → s.memRead a = .ok (s.cart.rom.read off)) ∧ (s.cart.romLength ≤ off → s.romByte a = none) := by
  have hb : s.romByte a = (if off < s.cart.romLength then some off else none).map s.cart.rom.read := congrArg _ ho
  constructor
  · intro h
    rw [if_pos h] at hb
    exact State.memRead_rom (State.watchHit_of_nil a hw) (s.target_rom ha) hb
  · intro h
    rw [hb, if_neg h.not_gt]
    rfl

/-- External RAM behind a gate that is open when `enabled`, in the RAM bank `bank`: closed it raises, open it is reached at the
bank's offset (a RAM below 8 KiB being one bank), and without RAM nothing is there (R233, R245, R251, R253). -/
theorem State.extRam_gate {enabled : Bool} {bank : Nat} (v : Byte) (hw : s.watchpoints = []) (hlo : 0xA000 ≤ a.toNat)
    (hhi : a.toNat < 0xC000)
    (hx : s.cart.extAccess a.toNat =
      if enabled then if s.cart.ramSize = 0 then .absent else .offset (s.cart.ramOffset bank a.toNat) else .disabled) :
    (enabled = false → 0 < s.cart.ramSize →
      s.memRead a = .error (.protectionFault a) ∧ s.memWrite a v = .err (.protectionFault a) s) ∧
    (enabled = true → 0x2000 ≤ s.cart.ramSize →
      s.target a = .mem .extRam (bank % (s.cart.ramSize / 0x2000) * 0x2000 + (a.toNat - 0xA000))) ∧
    (enabled = true → 0 < s.cart.ramSize → s.cart.ramSize < 0x2000 →
      s.target a = .mem .extRam ((a.toNat - 0xA000) % s.cart.ramSize)) ∧
    (enabled = true → s.cart.ramSize = 0 → s.target a = .unmapped) := by
  have ht : s.target a = extTarget s.cart a.toNat := s.target_extRam (regionOf_eq_iff.2 ⟨hlo, hhi⟩)
  unfold extTarget at ht
  rw [hx] at ht
  refine ⟨?closed, ?banked, ?small, ?absent⟩ <;> rintro rfl
  case closed =>
    intro _
    have hn := State.watchHit_of_nil a hw
    exact ⟨State.memRead_gated hn ht, State.memWrite_gated v hn ht⟩
  case banked =>
    intro h
    have h0 : s.cart.ramSize ≠ 0 := by omega
    simpa [h0, Cart.ramOffset, h.not_gt] using ht
  case small =>
    intro h0 h
    simpa [h0.ne', Cart.ramOffset, h] using ht
  case absent =>
    intro h0
    simpa [h0] using ht

end Unwatched

/-- Settles O47: the register writes by `Mbc1.write_eq`, the ROM windows by `romWindow`, external RAM by `extRam_gate`. -/
theorem mbc1Banks : Obligations.Mbc1Banks := by
  intro s r a v hc hw hm
  refine ⟨?write, ?read, ?ram⟩
  case write =>
    rintro ha q rfl
    rw [← Mbc1.write_eq]
    exact State.memWrite_rom (State.watchHit_of_nil a hw) (s.target_rom ha)
      (Cart.bankWrite_mbc1 _ v hc)
  case read =>
    rintro ha off rfl
    exact State.romWindow hw ha (by simp only [Cart.romOffset, hc, hm, Mbc1.lowBank, Mbc1.highBank])
  case ram => exact fun hlo hhi => State.extRam_gate v hw hlo hhi (by simp only [Cart.extAccess, hc])

/-- Settles O48: the register writes by `Mbc5.write_eq`, the ROM windows by `romWindow`, external RAM by `extRam_gate`. -/
theorem mbc5Banks : Obligations.Mbc5Banks := by
  intro s r a v hc hw hz
  refine ⟨?write, ?read, ?ram⟩
  case write =>
    rintro ha q rfl
    rw [← Mbc5.write_eq]
    exact State.memWrite_rom (State.watchHit_of_nil a hw) (s.target_rom ha)
      (Cart.bankWrite_mbc5 _ v hc)
  case read =>
    rintro ha off rfl
    exact State.romWindow hw ha (by simp [Cart.romOffset, hc, hz, Mbc5.highBank])
  case ram => exact fun hlo hhi => State.extRam_gate v hw hlo hhi (by simp only [Cart.extAccess, hc])

end Sys2Proof.Machine
end

section
/-! Save RAM (20_memory R254). -/

namespace Sys2Proof.Machine

/-- Settles O50: a load from offset 0 puts byte `i` at offset `i`. -/
theorem saveRamRoundTrip : Obligations.SaveRamRoundTrip := by
  intro s bs hm hlen
  refine List.ext_getElem (by simp [State.readCartSram, State.loadCartSram, hlen]) fun i hi hi' => ?_
  have hr : (s.cart.ram.load 0 bs).read i = bs[i] := by
    simpa using Memory.read_load bs s.cart.ram 0 i hm.extRam hi'
  simpa [State.readCartSram, State.loadCartSram, ← hlen] using hr

end Sys2Proof.Machine
end

section
/-! The two DMA copies (20_memory R215, R260, R261): each is a copy of its bytes in order, and a whole one where no access raises. -/

namespace Sys2Proof.Machine

/-! Where a copy's bytes come from and go to. -/

/-- A store of a copy to its own address, watched or done. -/
theorem State.dmaStore_eq (s : State) {a : Word} (b : Byte) (i : MemId) (off : Nat) (hr : regionOf a ≠ .echo)
    (hi : i = if regionOf a = .oam then .oam else .vram)
    (ho : off = if regionOf a = .oam then a.toNat - 0xFE00 else s.vramBank * 0x2000 + (a.toNat - 0x8000)) :
    s.dmaStore a b = if a ∈ s.watchpoints then .err (.busError a) s else .ok (s.setMem i ((s.mem i).write off b)) := by
  unfold State.dmaStore
  by_cases hw : a ∈ s.watchpoints
  · rw [State.watchHit_of_mem hw, if_pos hw]
  · rw [State.watchHit_eq_none hw (s.effective_of_not_echo hr), if_neg hw, hi, ho]

/-- A store of a copy to an OAM address. -/
theorem State.dmaStore_oam (s : State) {a : Word} (b : Byte) (hr : regionOf a = .oam) :
    s.dmaStore a b =
      if a ∈ s.watchpoints then .err (.busError a) s else .ok (s.setMem .oam ((s.mem .oam).write (a.toNat - 0xFE00) b)) :=
  s.dmaStore_eq b _ _ (by simp [hr]) (by simp [hr]) (by simp [hr])

/-- A store of a copy to a video RAM address, in the current bank. -/
theorem State.dmaStore_vram (s : State) {a : Word} (b : Byte) (hr : regionOf a = .vram) :
    s.dmaStore a b =
      if a ∈ s.watchpoints then .err (.busError a) s
      else .ok (s.setMem .vram ((s.mem .vram).write (s.vramBank * 0x2000 + (a.toNat - 0x8000)) b)) :=
  s.dmaStore_eq b _ _ (by simp [hr]) (by simp [hr]) (by simp [hr])

theorem concat16_toNat (h l : Byte) : (concat16 h l).toNat = h.toNat * 256 + l.toNat := by
  have hl := l.isLt
  rw [concat16, BitVec.toNat_append, Nat.shiftLeft_eq, Nat.mul_comm, ← Nat.two_pow_add_eq_or_of_lt hl]

/-- Clearing the low four bits rounds down to a multiple of 16. -/
theorem and_FFF0 (w : Word) : w &&& 0xFFF0 = BitVec.ofNat 16 (w.toNat / 16 * 16) := by
  have hs : w >>> 4 <<< 4 = w &&& 0xFFF0 := BitVec.shiftLeft_ushiftRight
  rw [← hs]
  apply BitVec.eq_of_toNat_eq
  simp [Nat.shiftLeft_eq, Nat.shiftRight_eq_div_pow]

/-- The low thirteen bits are the value modulo 0x2000. -/
theorem and_1FFF (w : Word) : w &&& 0x1FFF = BitVec.ofNat 16 (w.toNat % 0x2000) := by
  have hm : w.toNat &&& 0x1FFF = w.toNat % 0x2000 := Nat.and_two_pow_sub_one_eq_mod _ 13
  apply BitVec.eq_of_toNat_eq
  simp [hm]
  omega

/-- The source address of the fast copy as a number (R261). -/
def State.hdmaFrom (s : State) : Nat := (s.hdma1.toNat * 256 + s.hdma2.toNat) / 16 * 16

/-- The destination offset of the fast copy as a number (R261). -/
def State.hdmaTo (s : State) : Nat := (s.hdma3.toNat * 256 + s.hdma4.toNat) % 0x2000 / 16 * 16

theorem State.hdmaSource_eq (s : State) : s.hdmaSource = BitVec.ofNat 16 s.hdmaFrom := by
  rw [State.hdmaSource, and_FFF0, concat16_toNat, State.hdmaFrom]

theorem State.hdmaDest_eq (s : State) : s.hdmaDest = BitVec.ofNat 16 s.hdmaTo := by
  have hm : (0x1FF0 : Word) = 0x1FFF &&& 0xFFF0 := by decide
  rw [State.hdmaDest, hm, ← BitVec.and_assoc, and_FFF0, and_1FFF, concat16_toNat, State.hdmaTo, BitVec.toNat_ofNat,
    Nat.mod_eq_of_lt (b := 2 ^ 16) (by omega)]

/-- A destination of the fast copy: the offset modulo 0x2000, in video RAM (R261). -/
theorem vramAddr_eq (n : Nat) : (0x8000 : Word) ||| (BitVec.ofNat 16 n &&& 0x1FFF) = BitVec.ofNat 16 (0x8000 + n % 0x2000) := by
  have hn : n % 65536 % 0x2000 = n % 0x2000 := by omega
  have hlt : n % 0x2000 < 2 ^ 15 := by omega
  have ho : 0x8000 + n % 0x2000 = 0x8000 ||| n % 0x2000 := Nat.two_pow_add_eq_or_of_lt hlt 1
  rw [and_1FFF, BitVec.toNat_ofNat, hn, ho, BitVec.ofNat_or]
  rfl

/-- The low seven bits are the value modulo 128. -/
theorem and_7F_toNat (v : Byte) : (v &&& 0x7F).toNat = v.toNat % 128 := Nat.and_two_pow_sub_one_eq_mod _ 7

/-- A write of FF46 to an unwatched register is the copy of the page into OAM (R260). -/
theorem State.memWrite_dma (s : State) (v : Byte) (hw : (0xFF46 : Word) ∉ s.watchpoints) :
    s.memWrite 0xFF46 v = State.oamDma { s with draw := s.draw + 1, dma := v } v := by
  have hr : regionOf 0xFF46 = .io := by decide
  have ht : s.target 0xFF46 = .io .dma := by
    rw [s.target_io hr]
    cases s.colorMode <;> decide
  exact State.memWrite_io v (State.watchHit_eq_none hw (s.effective_of_not_echo (by decide))) ht

/-- In color mode a write of FF55 to an unwatched register is the copy into video RAM (R261). -/
theorem State.memWrite_hdma5 (s : State) (v : Byte) (hc : s.colorMode = true) (hw : (0xFF55 : Word) ∉ s.watchpoints) :
    s.memWrite 0xFF55 v = State.vramDma { s with draw := s.draw + 1, hdma5 := v } v := by
  have hr : regionOf 0xFF55 = .io := by decide
  have ht : s.target 0xFF55 = .io .hdma5 := by
    rw [s.target_io hr, hc]
    decide
  exact State.memWrite_io v (State.watchHit_eq_none hw (s.effective_of_not_echo (by decide))) ht

/-- OAM DMA copies the 160 bytes of its page in order (R260). -/
theorem State.oamDma_copies (s : State) (v : Byte) :
    CopiesBytes s (s.oamDma v) 160 (fun k => BitVec.ofNat 16 (v.toNat * 256 + k)) (fun k => BitVec.ofNat 16 (0xFE00 + k)) .oam
      fun k => k := by
  have h := dmaCopy_copies (fun k => BitVec.ofNat 16 (v.toNat * 256 + k)) (fun k => BitVec.ofNat 16 (0xFE00 + k)) .oam (fun k => k)
    160 0 s fun j t b hj hw _ => by
      have ha : (BitVec.ofNat 16 (0xFE00 + (0 + j))).toNat = 0xFE00 + j := by
        rw [BitVec.toNat_ofNat]
        omega
      have hr : regionOf (BitVec.ofNat 16 (0xFE00 + (0 + j))) = .oam := by
        rw [regionOf_eq_iff, ha]
        simp only [Region.lo, Region.hi]
        omega
      rw [t.dmaStore_oam b hr, hw, ha, Nat.add_sub_cancel_left, Nat.zero_add]
  simpa [State.oamDma] using h

/-- The fast copy in numbers. -/
theorem State.vramDma_eq (s : State) (v : Byte) :
    s.vramDma v = dmaCopy (fun k => BitVec.ofNat 16 (s.hdmaFrom + k)) (fun k => BitVec.ofNat 16 (0x8000 + (s.hdmaTo + k) % 0x2000))
      ((v.toNat % 128 + 1) * 16) 0 s := by
  simp only [State.vramDma, s.hdmaSource_eq, s.hdmaDest_eq, ← BitVec.ofNat_add, vramAddr_eq, and_7F_toNat]

/-- Fast VRAM DMA copies its bytes in order into the current bank (R261). -/
theorem State.vramDma_copies (s : State) (v : Byte) (hc : s.colorMode = true) :
    CopiesBytes s (s.vramDma v) ((v.toNat % 128 + 1) * 16) (fun k => BitVec.ofNat 16 (s.hdmaFrom + k))
      (fun k => BitVec.ofNat 16 (0x8000 + (s.hdmaTo + k) % 0x2000)) .vram
      fun k => s.video.vbk.toNat * 0x2000 + (s.hdmaTo + k) % 0x2000 := by
  have hb : s.vramBank = s.video.vbk.toNat := if_pos hc
  have h := dmaCopy_copies (fun k => BitVec.ofNat 16 (s.hdmaFrom + k)) (fun k => BitVec.ofNat 16 (0x8000 + (s.hdmaTo + k) % 0x2000))
    .vram (fun k => s.video.vbk.toNat * 0x2000 + (s.hdmaTo + k) % 0x2000) ((v.toNat % 128 + 1) * 16) 0 s fun j t b hj hw hk => by
      have ha : (BitVec.ofNat 16 (0x8000 + (s.hdmaTo + (0 + j)) % 0x2000)).toNat = 0x8000 + (s.hdmaTo + (0 + j)) % 0x2000 := by
        rw [BitVec.toNat_ofNat]
        omega
      have hr : regionOf (BitVec.ofNat 16 (0x8000 + (s.hdmaTo + (0 + j)) % 0x2000)) = .vram := by
        rw [regionOf_eq_iff, ha]
        simp only [Region.lo, Region.hi]
        omega
      rw [t.dmaStore_vram b hr, hw, ha, Nat.add_sub_cancel_left, hk, hb]
  rw [s.vramDma_eq]
  simpa using h

/-! A whole copy. -/

/-- Memory `m` is `m₀` after the first `k` bytes of a copy of the bytes `b` to the offsets `off`. -/
structure Copied (m₀ : Memory) (off : Nat → Nat) (b : Nat → Byte) (k : Nat) (m : Memory) : Prop where
  wf : m.wf = true
  copied : ∀ j, j < k → m.read (off j) = b j
  kept : ∀ o, (∀ j, j < k → o ≠ off j) → m.read o = m₀.read o

theorem Copied.zero {m : Memory} (off : Nat → Nat) (b : Nat → Byte) (h : m.wf = true) : Copied m off b 0 m :=
  ⟨h, fun _ hj => absurd hj (Nat.not_lt_zero _), fun _ _ => rfl⟩

/-- One more byte, at an offset that none before it had. -/
theorem Copied.succ {m₀ m : Memory} {off : Nat → Nat} {b : Nat → Byte} {k : Nat} (h : Copied m₀ off b k m)
    (hk : ∀ j, j < k → off j ≠ off k) : Copied m₀ off b (k + 1) (m.write (off k) (b k)) where
  wf := m.wf_write _ _ h.wf
  copied j hj := by
    obtain hj | rfl := Nat.lt_succ_iff_lt_or_eq.1 hj
    · rw [m.read_write_ne _ (hk j hj), h.copied j hj]
    · exact m.read_write_same _ _ h.wf
  kept o ho := by
    rw [m.read_write_ne _ (ho k k.lt_succ_self), h.kept o fun j hj => ho j (Nat.lt_succ_of_lt hj)]

/-- What lets a copy of the bytes `b` from the addresses `src` go through: no watchpoint, every source byte readable, distinct
offsets, and no source byte that is the destination of another. -/
structure GoesThrough (s : State) (src : Nat → Word) (len : Nat) (i : MemId) (off : Nat → Nat) (b : Nat → Byte) : Prop where
  unwatched : s.watchpoints = []
  readable : ∀ k, k < len → s.memRead (src k) = .ok (b k)
  distinct : ∀ p q, p < len → q < len → off p = off q → p = q
  apart : ∀ k, k < len → ∀ o, s.target (src k) = .mem i o → o = off k

theorem State.setMem_self (s : State) (i : MemId) : s.setMem i (s.mem i) = s := by cases i <;> rfl

theorem State.setMem_setMem (s : State) (i : MemId) (m m' : Memory) : (s.setMem i m).setMem i m' = s.setMem i m' := by
  cases i <;> rfl

section Whole
variable {s : State} {src : Nat → Word} {len : Nat} {i : MemId} {off : Nat → Nat} {b : Nat → Byte}

/-- After `k` bytes of such a copy every source still reads its byte. -/
theorem Copied.memRead {m : Memory} {k j : Nat} (h : Copied (s.mem i) off b k m) (hg : GoesThrough s src len i off b)
    (hk : k ≤ len) (hj : j < len) : (s.setMem i m).memRead (src j) = .ok (b j) := by
  have hr := hg.readable j hj
  refine (State.memRead_setMem fun o ht => ?_).trans hr
  have hb := (State.memRead_mem (State.watchHit_of_nil (src j) hg.unwatched) ht).symm.trans hr
  obtain rfl := hg.apart j hj o ht
  by_cases hjk : j < k
  · exact (h.copied j hjk).trans (Except.ok.inj hb).symm
  · refine h.kept _ fun p hp he => hjk ?_
    rwa [hg.distinct j p hj (hp.trans_le hk) he]

/-- Such a copy is whole and changes its memory alone. -/
theorem CopiesBytes.whole {r : Run} {dst : Nat → Word} (h : CopiesBytes s r len src dst i off) (hm : (s.mem i).wf = true)
    (hg : GoesThrough s src len i off b) : ∃ m, r = .ok (s.setMem i m) ∧ Copied (s.mem i) off b len m := by
  obtain ⟨n, f, hf0, hstep, hend⟩ := h
  have hn : n ≤ len := by
    obtain ⟨rfl, _⟩ | ⟨hlt, _⟩ := hend
    · exact le_rfl
    · exact hlt.le
  have hcopied : ∀ k, k ≤ n → ∃ m, f k = s.setMem i m ∧ Copied (s.mem i) off b k m := by
    intro k
    induction k with
    | zero => exact fun _ => ⟨s.mem i, hf0.trans (s.setMem_self i).symm, .zero off b hm⟩
    | succ k ih =>
      intro hk
      obtain ⟨m, hfk, hc⟩ := ih (Nat.le_of_succ_le hk)
      obtain ⟨b', hb', -, hf⟩ := hstep k hk
      have hkl : k < len := Nat.lt_of_lt_of_le hk hn
      rw [hfk, hc.memRead hg hkl.le hkl] at hb'
      cases hb'
      refine ⟨_, ?_, hc.succ fun j hj he => hj.ne (hg.distinct j k (hj.trans hkl) hkl he)⟩
      rw [hf, hfk, s.setMem_setMem, s.mem_setMem]
  obtain ⟨m, hfn, hc⟩ := hcopied n le_rfl
  obtain ⟨rfl, hr⟩ | ⟨hlt, e, -, herr | ⟨_, _, hd, _⟩⟩ := hend
  · exact ⟨m, hr.trans (congrArg _ hfn), hc⟩
  · rw [hfn, hc.memRead hg hn hlt] at herr
    cases herr
  · rw [hg.unwatched] at hd
    cases hd

end Whole

/-- A source byte of OAM DMA that lies in OAM is copied onto itself. -/
theorem oamDma_source_self {s : State} {v : Byte} {k o : Nat} (hk : k < 160)
    (ht : s.target (BitVec.ofNat 16 (v.toNat * 256 + k)) = .mem .oam o) : o = k := by
  obtain ⟨hr, ho⟩ := State.offset_of_target_oam ht
  have hv := v.isLt
  obtain ⟨hlo, hhi⟩ := regionOf_eq_iff.1 hr
  simp only [Region.lo, Region.hi, BitVec.toNat_ofNat] at hlo hhi ho
  omega

/-- The longest fast copy is shorter than a bank of video RAM, so its destinations are distinct. -/
theorem hdmaOffset_injective {bank d p q : Nat} (v : Byte) (hp : p < (v.toNat % 128 + 1) * 16) (hq : q < (v.toNat % 128 + 1) * 16)
    (h : bank * 0x2000 + (d + p) % 0x2000 = bank * 0x2000 + (d + q) % 0x2000) : p = q := by
  omega

/-- Settles O49: both copies are `CopiesBytes`, and whole by `CopiesBytes.whole`. -/
theorem dmaCopies : Obligations.DmaCopies := by
  refine ⟨?oam, ?vram, ?oamWhole, ?vramWhole⟩
  case oam =>
    intro s v s0 hw
    exact s.memWrite_dma v hw ▸ s0.oamDma_copies v
  case vram =>
    intro s v s0 len src dst hc hw
    exact s.memWrite_hdma5 v hc hw ▸ s0.vramDma_copies v hc
  case oamWhole =>
    intro s v b s0 _ hm hw hread
    obtain ⟨m, hr, hc⟩ := (s0.oamDma_copies v).whole hm.oam
      ⟨hw, hread, fun _ _ _ _ h => h, fun _ hk _ => oamDma_source_self hk⟩
    exact ⟨_, (s.memWrite_dma v (by simp [hw])).trans hr, hc.copied, fun k hk => hc.kept k fun j hj => by omega, rfl⟩
  case vramWhole =>
    intro s v b s0 len src dst hcm _ hm hw hread
    obtain ⟨m, hr, hc⟩ := (s0.vramDma_copies v hcm).whole hm.vram
      ⟨hw, fun k hk => (hread k hk).1, fun _ _ => hdmaOffset_injective v, fun k hk o ht => absurd ht ((hread k hk).2 o)⟩
    exact ⟨_, (s.memWrite_hdma5 v hcm (by simp [hw])).trans hr, hc.copied, hc.kept, rfl⟩

end Sys2Proof.Machine
end

section
/-! The encoding (30_encoding R300 to R303, R330 to R334, R340): decoding inverts the encoder instruction by instruction, and the
encoder inverts the decoder form by form. -/

namespace Sys2Proof

/-! From an instruction to its bytes and back. -/

/-- A 16-bit operand is put together from its two bytes (R320). -/
theorem decode_imm16 {o : Byte} {g : Word → Instr} (h : formOf o = .imm16 g) (nn : Word) (rest : List Byte) :
    decode (o :: loByte nn :: hiByte nn :: rest) = .ok (g nn, rest) := by
  simp [decode, h]

/-- Each of the eleven bytes stands alone as INVALID (R340). -/
theorem decode_invalid {o : Byte} (h : o ∈ invalidOpcodes) (rest : List Byte) :
    decode (o :: rest) = .ok (.invalid o, rest) := by
  unfold invalidOpcodes at h
  fin_cases h <;> rfl

/-- Decoding undoes encoding: by computation, but for INVALID's byte and the halves of a 16-bit operand. -/
theorem decode_encode {i : Instr} (h : i.wellFormed = true) (rest : List Byte) : decode (encode i ++ rest) = .ok (i, rest) := by
  cases i with
  | invalid op => exact decode_invalid (List.contains_iff_mem.1 h) rest
  | ldBCImm16 nn | ldDEImm16 nn | ldHLImm16 nn | ldSPImm16 nn | ldAtA16SP nn | ldAtA16A nn | ldAAtA16 nn | jpA16 nn | jpNZA16 nn
  | jpZA16 nn | jpNCA16 nn | jpCA16 nn | callA16 nn | callNZA16 nn | callZA16 nn | callNCA16 nn | callCA16 nn =>
    exact decode_imm16 rfl nn rest
  | _ => rfl

/-! From an opcode byte to what it stands for and back. -/

/-- Every instruction of the form, whatever its operand bytes, is well formed and encoded as the opcode byte `o` and those bytes. -/
def Form.Spells (o : Byte) : Form → Prop
  | .op i => i.wellFormed = true ∧ encode i = [o]
  | .imm8 g => ∀ n, (g n).wellFormed = true ∧ encode (g n) = [o, n]
  | .imm16 g => ∀ nn, (g nn).wellFormed = true ∧ encode (g nn) = [o, loByte nn, hiByte nn]
  | .cb => ∀ n, (cbInstr n).wellFormed = true ∧ encode (cbInstr n) = [o, n]

/-- The instruction of an opcode byte that stands alone. -/
def Form.op? : Form → Option Instr
  | .op i => some i
  | _ => none

/-- The opcode bytes that stand alone (R330 to R333, R340). -/
theorem spells_op {o : Byte} {i : Instr} (h : formOf o = .op i) : (formOf o).Spells o := by
  have all : ∀ o : Byte, ∀ i ∈ (formOf o).op?, i.wellFormed = true ∧ encode i = [o] := by decide +kernel
  rw [h]
  exact all o i (by rw [h]; rfl)

/-- The second bytes after CB (R334). -/
theorem spells_cb : Form.cb.Spells 0xCB := by
  have all : ∀ n, (cbInstr n).wellFormed = true ∧ encode (cbInstr n) = [0xCB, n] := by decide +kernel
  exact all

/-- The opcode bytes with one byte more, CB's second byte among them (R302). -/
theorem spells_two {o : Byte} (h : o ∈ twoByteOpcodes) : (formOf o).Spells o := by
  obtain rfl | h := List.mem_cons.1 h
  · exact spells_cb
  · fin_cases h <;> exact fun _ => ⟨rfl, rfl⟩

/-- The opcode bytes with two bytes more (R302). -/
theorem spells_three {o : Byte} (h : o ∈ threeByteOpcodes) : (formOf o).Spells o := by
  unfold threeByteOpcodes at h
  fin_cases h <;> exact fun _ => ⟨rfl, rfl⟩

/-- Every opcode byte, by the length it gives (R302). -/
theorem formOf_spells (o : Byte) : (formOf o).Spells o := by
  by_cases h3 : o ∈ threeByteOpcodes
  · exact spells_three h3
  by_cases h2 : o ∈ twoByteOpcodes
  · exact spells_two h2
  have hlen : formBytes (formOf o) = 1 := by
    rw [← instrLength_formBytes]
    simp [instrLength, h3, h2]
  cases hf : formOf o with
  | op i => exact hf ▸ spells_op hf
  | imm8 | imm16 | cb => simp [hf, formBytes] at hlen

/-- Encoding undoes decoding, by the branches of `decode`. -/
theorem encode_of_decode {bs rest : List Byte} {i : Instr} (h : decode bs = .ok (i, rest)) :
    i.wellFormed = true ∧ bs = encode i ++ rest := by
  cases bs with
  | nil => cases h
  | cons o t =>
    have hs := formOf_spells o
    simp only [decode] at h
    split at h
    next hf =>
      cases h
      rw [hf] at hs
      obtain ⟨hw, he⟩ := hs
      exact ⟨hw, by simp [he]⟩
    next n t hf =>
      cases h
      rw [hf] at hs
      obtain ⟨hw, he⟩ := hs n
      exact ⟨hw, by simp [he]⟩
    next lo hi t hf =>
      cases h
      rw [hf] at hs
      obtain ⟨hw, he⟩ := hs (concat16 hi lo)
      exact ⟨hw, by simp [he]⟩
    next n t hf =>
      cases h
      rw [hf] at hs
      obtain ⟨hw, he⟩ := hs n
      exact ⟨hw, by simp [he]⟩
    next => cases h

/-- A first byte followed by the bytes its form takes decodes (R302, R303). -/
theorem exists_decode {o : Byte} {t : List Byte} (h : instrLength o ≤ t.length + 1) : ∃ i rest, decode (o :: t) = .ok (i, rest) := by
  rw [instrLength_formBytes] at h
  cases hf : formOf o with
  | op i => simp [decode, hf]
  | imm8 g | cb =>
    cases t with
    | nil => simp [hf, formBytes] at h
    | cons n t => simp [decode, hf]
  | imm16 g =>
    match t with
    | [] | [_] => simp [hf, formBytes] at h
    | lo :: hi :: t => simp [decode, hf]

end Sys2Proof

namespace Sys2Proof.Machine

/-- Settles O8, by the cases of the instruction. -/
theorem decodeEncode : Obligations.DecodeEncode :=
  fun _ rest h => decode_encode h rest

/-- Settles O9: the bytes and the instruction determine each other, by `encode_of_decode` one way and `decode_encode` the other. -/
theorem decodeInverts : Obligations.DecodeInverts := by
  refine ⟨fun _ _ _ => encode_of_decode, fun o t => ⟨⟨?takes, exists_decode⟩, fun i rest h => ⟨?invalid, ?listed⟩⟩⟩
  case takes =>
    rintro ⟨i, rest, h⟩
    obtain ⟨_, _, hbs, hlen⟩ := decode_length h
    cases hbs
    omega
  case invalid =>
    intro ho
    rw [decode_invalid ho t] at h
    cases h
    rfl
  case listed =>
    rintro rfl
    exact List.contains_iff_mem.1 (encode_of_decode h).1

/-- Settles O10: each word is its instruction's encoding, so it decodes by `decode_encode`. -/
theorem sampleWords : Obligations.SampleWords :=
  ⟨decode_encode (i := .ldCB) rfl [], decode_encode (i := .ldHLImm16 0x1234) rfl [], decode_encode (i := .sbcAAtHL) rfl [],
    decode_encode (i := .addHLSP) rfl [], decode_encode (i := .swapAtHL) rfl [], decode_encode (i := .bit7H) rfl [],
    decode_encode (i := .jrNCE8 0xFE) rfl [], decode_encode (i := .rst28) rfl [], decode_encode (i := .stop 0x00) rfl [],
    decode_encode (i := .invalid 0xD3) rfl []⟩

end Sys2Proof.Machine
end

section
/-! What a register update and a byte written to RAM leave unchanged, how one access ends an instruction, and how an instruction
with a primary opcode is spelled. -/

namespace Sys2Proof.Machine

/-! Registers. -/

theorem OnlyRegs.withRegs (s : State) (r : Regs) : OnlyRegs s { s with regs := r } := ⟨rfl, s.memRead_regs r⟩

theorem OnlyRegs.setReg (s : State) (r : Reg8) (v : Byte) : OnlyRegs s (s.setReg r v) := by
  cases r <;> exact .withRegs s _

theorem KeepsRegs.setReg (s : State) (r : Reg8) (v : Byte) : KeepsRegs [r] s (s.setReg r v) :=
  ⟨fun _ hq => s.reg_setReg_ne v (List.ne_of_not_mem_cons hq), s.setReg_sp r v, s.setReg_pc r v⟩

theorem State.reg_setHl_ne (s : State) {q : Reg8} (w : Word) (hh : q ≠ .h) (hl : q ≠ .l) : (s.setHl w).reg q = s.reg q := by
  cases q
  case h => exact absurd rfl hh
  case l => exact absurd rfl hl
  all_goals rfl

theorem KeepsRegs.setHl (s : State) (w : Word) : KeepsRegs [.h, .l] s (s.setHl w) := by
  refine ⟨fun q hq => ?_, rfl, rfl⟩
  simp only [List.mem_cons, List.not_mem_nil, or_false, not_or] at hq
  exact s.reg_setHl_ne w hq.1 hq.2

theorem State.reg_of_regs {s t : State} (h : t.regs = s.regs) (q : Reg8) : t.reg q = s.reg q := by
  cases q <;> simp only [State.reg, h]

theorem State.flags_of_regs {s t : State} (h : t.regs = s.regs) : t.flags = s.flags := by
  simp only [State.flags, State.flagByte, h]

theorem KeepsRegs.of_regs {s t : State} (h : t.regs = s.regs) : KeepsRegs [] s t :=
  ⟨fun q _ => State.reg_of_regs h q, congrArg Regs.sp h, congrArg Regs.pc h⟩

/-- What two updates in a row keep is what both keep. -/
theorem KeepsRegs.trans {ds es : List Reg8} {s t u : State} (h : KeepsRegs ds s t) (k : KeepsRegs es t u) :
    KeepsRegs (ds ++ es) s u := by
  obtain ⟨hr, hsp, hpc⟩ := h
  obtain ⟨kr, ksp, kpc⟩ := k
  refine ⟨fun q hq => ?_, ksp.trans hsp, kpc.trans hpc⟩
  rw [List.mem_append, not_or] at hq
  exact (kr q hq.2).trans (hr q hq.1)

/-! A byte written to RAM. -/

theorem OnlyRegsAndRam.setMem (s : State) (i : MemId) (m : Memory) : OnlyRegsAndRam s (s.setMem i m) := by cases i <;> rfl

/-- A register update after the write is still no more than registers and RAM. -/
theorem OnlyRegsAndRam.withRegs {s t : State} (h : OnlyRegsAndRam s t) (r : Regs) : OnlyRegsAndRam s { t with regs := r } := by
  unfold OnlyRegsAndRam at h ⊢
  rw [h]

/-- A register update after the write leaves the byte stored. -/
theorem StoredByte.withRegs {s t : State} {a : Word} {v : Byte} (h : StoredByte s t a v) (r : Regs) :
    StoredByte s { t with regs := r } a v := h

/-- A write to RAM completes, stores its byte and changes nothing else. -/
theorem RamAt.memWrite {s : State} {a : Word} (h : RamAt s a) (hm : s.MemoriesWf) (v : Byte) :
    ∃ t, s.memWrite a v = .ok t ∧ StoredByte s t a v ∧ OnlyRegsAndRam s t := by
  obtain ⟨hw, i, off, ht⟩ := h
  exact ⟨_, State.memWrite_mem v hw ht, State.storedByte v hm hw ht, .setMem s i _⟩

/-! One access, then an effect on the registers. -/

theorem State.withByteAt_ok {s : State} {a : Word} {v : Byte} {k : Byte → State} (h : s.memRead a = .ok v) :
    s.withByteAt a k = .next (k v) := congrArg Run.result (State.readThen_ok h)

theorem State.withByteAt_error {s : State} {a : Word} {e : StepError} {k : Byte → State} (h : s.memRead a = .error e) :
    s.withByteAt a k = .next (s.raise e) := congrArg Run.result (State.readThen_error h)

theorem State.storeByte_ok {s t : State} {a : Word} {v : Byte} {k : State → State} (h : s.memWrite a v = .ok t) :
    s.storeByte a v k = .next (k t) := congrArg Run.result (State.writeThen_ok h)

theorem State.storeByte_err {s t : State} {a : Word} {v : Byte} {e : StepError} {k : State → State}
    (h : s.memWrite a v = .err e t) : s.storeByte a v k = .next (t.raise e) := congrArg Run.result (State.writeThen_err h)

/-! Bytes and cost. -/

/-- Without a parameter of its own an instruction with a primary opcode costs what R1030 gives its opcode byte. -/
theorem costPair_primary {cfg : Config} {i : Instr} {o : Byte} {t : List Byte} (hc : cfg.cycleCost = [])
    (he : encode i = o :: t) (ho : o ≠ 0xCB) : costPair cfg i = primaryCost o := by
  cases t <;> simp only [costPair, he, hc, if_neg ho, lookupD]

/-- The spelling of an instruction with a primary opcode. -/
theorem Spells.primary {i : Instr} {o : Byte} {t : List Byte} {m n : Nat} (he : encode i = o :: t) (ho : o ≠ 0xCB)
    (hc : primaryCost o = (m, n)) : Spells i (o :: t) m n :=
  ⟨he, fun _ h => (costPair_primary h he ho).trans hc⟩

end Sys2Proof.Machine
end

section
/-! The 8-bit loads (40_load8 R400 to R418): each instruction by the meaning its group shares. -/

namespace Sys2Proof.Machine

/-! Between registers, and immediate (R400, R401). -/

theorem exec_ldRegReg (r q : Reg8) (s : State) : exec (ldRegReg r q) s = .next (s.setReg r (s.reg q)) := by
  cases r <;> cases q <;> rfl

theorem exec_ldRegImm (r : Reg8) (n : Byte) (s : State) : exec (ldRegImm r n) s = .next (s.setReg r n) := by cases r <;> rfl

theorem spells_ldRegReg (r q : Reg8) : Spells (ldRegReg r q) [0x40 ||| regCode r <<< 3 ||| regCode q] 4 4 := by
  cases r <;> cases q <;> exact .primary rfl (by decide) rfl

theorem spells_ldRegImm (r : Reg8) (n : Byte) : Spells (ldRegImm r n) [0x06 ||| regCode r <<< 3, n] 8 8 := by
  cases r <;> exact .primary rfl (by decide) rfl

/-- What writing one register does, in the terms of `RegisterLoads` and `MemoryLoads`. -/
theorem State.setReg_spec (s : State) (r : Reg8) (v : Byte) :
    (s.setReg r v).reg r = v ∧ (s.setReg r v).flags = s.flags ∧ KeepsRegs [r] s (s.setReg r v) ∧ OnlyRegs s (s.setReg r v) :=
  ⟨s.reg_setReg_same r v, s.flags_setReg r v, .setReg s r v, .setReg s r v⟩

/-- Settles O11: both groups write one register, whatever the operands. -/
theorem registerLoads : Obligations.RegisterLoads :=
  ⟨fun r q s => ⟨⟨_, exec_ldRegReg r q s, s.setReg_spec r _⟩, spells_ldRegReg r q⟩,
    fun r n s => ⟨⟨_, exec_ldRegImm r n s, s.setReg_spec r n⟩, spells_ldRegImm r n⟩⟩

/-! From memory (R402, R405, R406, R409, R411, R413). -/

section Load
variable {s : State} {i : Instr} {r : Reg8} {a : Word} {bs : List Byte} {c : Nat}

/-- Every form is a read at its address, then the register. -/
theorem ByteLoad.exec_eq (h : ByteLoad s i r a bs c) : exec i s = s.withByteAt a (s.setReg r) := by
  cases h with
  | atHL r => cases r <;> rfl
  | atBC | atDE | atA16 | atC | atA8 => rfl

theorem ByteLoad.spells (h : ByteLoad s i r a bs c) : Spells i bs c c := by
  cases h with
  | atHL r => cases r <;> exact .primary rfl (by decide) rfl
  | atBC | atDE | atA16 | atC | atA8 => exact .primary rfl (by decide) rfl

end Load

/-- Settles O12: the read decides between the register write and the raise. -/
theorem memoryLoads : Obligations.MemoryLoads := by
  intro s i r a bs c hform
  rw [hform.exec_eq]
  exact ⟨fun v h => ⟨_, State.withByteAt_ok h, s.setReg_spec r v⟩, fun _ h => State.withByteAt_error h, hform.spells⟩

/-! To memory (R403, R404, R407, R408, R410, R412, R414). -/

section Store
variable {s : State} {i : Instr} {a : Word} {v : Byte} {bs : List Byte} {c : Nat}

/-- Every form is a write of its value at its address, and nothing else. -/
theorem ByteStore.exec_eq (h : ByteStore s i a v bs c) : exec i s = s.storeByte a v id := by
  cases h with
  | atHL r => cases r <;> rfl
  | atHLImm | atBC | atDE | atA16 | atC | atA8 => rfl

theorem ByteStore.spells (h : ByteStore s i a v bs c) : Spells i bs c c := by
  cases h with
  | atHL r => cases r <;> exact .primary rfl (by decide) rfl
  | atHLImm | atBC | atDE | atA16 | atC | atA8 => exact .primary rfl (by decide) rfl

end Store

/-- Settles O13: the store ends as its bus write does, which `RamAt.memWrite` describes where the address reaches RAM. -/
theorem memoryStores : Obligations.MemoryStores := by
  intro s i a v bs c hform
  rw [hform.exec_eq]
  refine ⟨fun t h => ⟨State.storeByte_ok h, (State.memWrite_ok_keeps h).regs⟩, fun _ _ h => State.storeByte_err h, ?ram,
    hform.spells⟩
  case ram =>
    intro hm ha
    obtain ⟨t, h, hstored, honly⟩ := ha.memWrite hm v
    exact ⟨t, State.storeByte_ok h, (State.memWrite_ok_keeps h).regs, hstored, honly⟩

/-! At (HL+) and (HL-) (R415 to R418). -/

/-- Both loads read at HL into A, then write HL. -/
theorem exec_steppingLoad {s : State} {i : Instr} {w : Word}
    (h : (i = .ldAAtHLInc ∧ w = s.hl + 1) ∨ (i = .ldAAtHLDec ∧ w = s.hl - 1)) :
    exec i s = s.withByteAt s.hl fun v => (s.setReg .a v).setHl w := by
  obtain ⟨rfl, rfl⟩ | ⟨rfl, rfl⟩ := h
  · rfl
  · rw [sub_eq_add_neg]
    rfl

/-- Both stores write A at HL, then write HL. -/
theorem exec_steppingStore {s : State} {i : Instr} {w : Word}
    (h : (i = .ldAtHLIncA ∧ w = s.hl + 1) ∨ (i = .ldAtHLDecA ∧ w = s.hl - 1)) :
    exec i s = s.storeByte s.hl (s.reg .a) fun u => u.setHl w := by
  obtain ⟨rfl, rfl⟩ | ⟨rfl, rfl⟩ := h
  · rfl
  · rw [sub_eq_add_neg]
    rfl

/-- HL written after a bus write that completed: the flags and the other registers are as before the write. -/
theorem State.setHl_after_memWrite {s u : State} {a : Word} {v : Byte} (w : Word) (h : s.memWrite a v = .ok u) :
    (u.setHl w).flags = s.flags ∧ KeepsRegs [.h, .l] s (u.setHl w) := by
  have hr : u.regs = s.regs := (State.memWrite_ok_keeps h).regs
  exact ⟨(u.flags_setHl w).trans (State.flags_of_regs hr), (KeepsRegs.of_regs hr).trans (.setHl u w)⟩

/-- Settles O14: the access is made with the old HL, and HL is written only where it completes. -/
theorem steppingAccesses : Obligations.SteppingAccesses := by
  constructor
  · intro s i w hform
    rw [exec_steppingLoad hform]
    refine ⟨fun v h => ⟨_, State.withByteAt_ok h, rfl, State.hl_setHl _ w, ?_, ?_, .withRegs s _⟩,
      fun _ h => State.withByteAt_error h, .primary rfl (by decide) rfl, .primary rfl (by decide) rfl⟩
    · exact (State.flags_setHl _ w).trans (s.flags_setReg .a v)
    · exact (KeepsRegs.setReg s .a v).trans (.setHl _ w)
  · intro s i w hform
    rw [exec_steppingStore hform]
    refine ⟨?completes, fun _ _ h => State.storeByte_err h, ?ram, .primary rfl (by decide) rfl, .primary rfl (by decide) rfl⟩
    case completes =>
      intro u h
      obtain ⟨hflags, hkeeps⟩ := State.setHl_after_memWrite w h
      exact ⟨_, State.storeByte_ok h, u.hl_setHl w, hflags, hkeeps, rfl⟩
    case ram =>
      intro hm ha
      obtain ⟨u, h, hstored, honly⟩ := ha.memWrite hm (s.reg .a)
      obtain ⟨hflags, hkeeps⟩ := State.setHl_after_memWrite w h
      exact ⟨_, State.storeByte_ok h, u.hl_setHl w, hflags, hkeeps, hstored.withRegs _, honly.withRegs _⟩

end Sys2Proof.Machine
end

section
/-! Two accesses in a row (00_scope R17, R19): two bytes written to RAM, the pair of writes of a 16-bit store, and the stack, whose
push and pop are stated for every instruction that makes one. -/

namespace Sys2Proof.Machine

/-! Two bytes written to RAM. -/

theorem State.MemoriesWf.withRegs {s : State} (h : s.MemoriesWf) (r : Regs) : ({ s with regs := r } : State).MemoriesWf :=
  ⟨h.wram, h.hram, h.vram, h.oam, h.bgPalette, h.objPalette, h.rom, h.extRam, h.wave⟩

theorem RamAt.withRegs {s : State} {a : Word} (h : RamAt s a) (r : Regs) : RamAt { s with regs := r } a := h

theorem RamAt.setMem {s : State} {a : Word} (h : RamAt s a) (i : MemId) (m : Memory) : RamAt (s.setMem i m) a := by
  simpa only [RamAt, State.watchHit_setMem, State.target_setMem] using h

theorem OnlyRegsAndRam.trans {s t u : State} (h : OnlyRegsAndRam s t) (k : OnlyRegsAndRam t u) : OnlyRegsAndRam s u := by
  unfold OnlyRegsAndRam at h k ⊢
  rw [k, h]

/-- Two stored bytes that are not the same byte of RAM: the second write leaves the first byte. -/
theorem StoredByte.storedBytes {s t u : State} {a b : Word} {v w : Byte} (h : StoredByte s t a v) (k : StoredByte t u b w)
    (ht : ∀ c, t.target c = s.target c) (hne : s.target a ≠ s.target b) : StoredBytes s u a b v w := by
  obtain ⟨hread, hrest⟩ := h
  obtain ⟨kread, krest⟩ := k
  simp only [ht] at krest
  exact ⟨(krest a hne).trans hread, kread, fun c ha hb => (krest c hb).trans (hrest c ha)⟩

/-- Two writes to RAM complete, whatever happens to the registers between them, and store both bytes. -/
theorem RamAt.memWrite_memWrite {s : State} {a b : Word} (ha : RamAt s a) (hb : RamAt s b) (hm : s.MemoriesWf)
    (hne : s.target a ≠ s.target b) (v w : Byte) :
    ∃ t, s.memWrite a v = .ok t ∧ ∀ r : Regs, ∃ u, ({ t with regs := r } : State).memWrite b w = .ok u ∧
      StoredBytes s u a b v w ∧ OnlyRegsAndRam s u := by
  obtain ⟨hw, i, off, hta⟩ := ha
  refine ⟨_, State.memWrite_mem v hw hta, fun r => ?_⟩
  have hwf := hm.setMem i _ (Memory.wf_write (s.mem i) off v (hm.mem i))
  obtain ⟨u, hu, hstored, honly⟩ := ((hb.setMem i _).withRegs r).memWrite (hwf.withRegs r) w
  exact ⟨u, hu, (State.storedByte v hm hw hta).storedBytes hstored (s.target_setMem i _) hne,
    ((OnlyRegsAndRam.setMem s i _).withRegs r).trans honly⟩

/-! A 16-bit store (R17). -/

theorem State.memWrite16_ok {s t : State} {a w : Word} (h : s.memWrite a (loByte w) = .ok t) :
    s.memWrite16 a w = t.memWrite (a + 1) (hiByte w) := State.writeThen_ok h

theorem State.memWrite16_err {s t : State} {a w : Word} {e : StepError} (h : s.memWrite a (loByte w) = .err e t) :
    s.memWrite16 a w = .err e t := State.writeThen_err h

theorem State.memWrite16_regs {s u : State} {a w : Word} (h : s.memWrite16 a w = .ok u) : u.regs = s.regs := by
  cases h1 : s.memWrite a (loByte w) with
  | err e t => cases (State.memWrite16_err h1).symm.trans h
  | ok t =>
    rw [State.memWrite16_ok h1] at h
    exact (State.memWrite_ok_keeps h).regs.trans (State.memWrite_ok_keeps h1).regs

/-- Where both addresses reach RAM, a 16-bit store completes and stores both bytes. -/
theorem State.memWrite16_ram {s : State} {a : Word} (hm : s.MemoriesWf) (h1 : RamAt s a) (h2 : RamAt s (a + 1))
    (hne : s.target a ≠ s.target (a + 1)) (w : Word) :
    ∃ u, s.memWrite16 a w = .ok u ∧ StoredBytes s u a (a + 1) (loByte w) (hiByte w) ∧ OnlyRegsAndRam s u := by
  obtain ⟨t, ht, hnext⟩ := h1.memWrite_memWrite h2 hm hne (loByte w) (hiByte w)
  obtain ⟨u, hu, hstored, honly⟩ := hnext t.regs
  exact ⟨u, (State.memWrite16_ok ht).trans hu, hstored, honly⟩

/-! A push (R19). -/

section Push
variable {s t u : State} {w : Word}

/-- Once the high byte is written, a push is the write of the low byte below it. -/
theorem State.push16_ok (h : (s.setSp (s.regs.sp - 1)).memWrite (s.regs.sp - 1) (hiByte w) = .ok t) :
    s.push16 w = (t.setSp (s.regs.sp - 2)).memWrite (s.regs.sp - 2) (loByte w) := by
  have hsp : t.regs.sp - 1 = s.regs.sp - 2 := by
    rw [(State.memWrite_ok_keeps h).regs, State.setSp_sp]
    bv_omega
  calc s.push16 w
    _ = (t.setSp (t.regs.sp - 1)).memWrite (t.regs.sp - 1) (loByte w) := State.writeThen_ok h
    _ = _ := by rw [hsp]

theorem State.push16_err {e : StepError} (h : (s.setSp (s.regs.sp - 1)).memWrite (s.regs.sp - 1) (hiByte w) = .err e t) :
    s.push16 w = .err e t := State.writeThen_err h

/-- A push that completes moves SP by two and no other register. -/
theorem State.push16_regs (h : s.push16 w = .ok u) : u.regs = { s.regs with sp := s.regs.sp - 2 } := by
  cases h1 : (s.setSp (s.regs.sp - 1)).memWrite (s.regs.sp - 1) (hiByte w) with
  | err e t => cases (State.push16_err h1).symm.trans h
  | ok t =>
    rw [State.push16_ok h1] at h
    rw [(State.memWrite_ok_keeps h).regs, State.setSp, (State.memWrite_ok_keeps h1).regs, State.setSp]

/-- Where the stack slot is RAM, a push completes and stores both bytes. -/
theorem State.push16_ram (hm : s.MemoriesWf) (h1 : RamAt s (s.regs.sp - 1)) (h2 : RamAt s (s.regs.sp - 2))
    (hne : s.target (s.regs.sp - 1) ≠ s.target (s.regs.sp - 2)) (w : Word) :
    ∃ u, s.push16 w = .ok u ∧ StoredBytes s u (s.regs.sp - 1) (s.regs.sp - 2) (hiByte w) (loByte w) ∧ OnlyRegsAndRam s u := by
  obtain ⟨t, ht, hnext⟩ := (h1.withRegs { s.regs with sp := s.regs.sp - 1 }).memWrite_memWrite (h2.withRegs _) (hm.withRegs _)
    hne (hiByte w) (loByte w)
  obtain ⟨u, hu, hstored, honly⟩ := hnext { t.regs with sp := s.regs.sp - 2 }
  exact ⟨u, (State.push16_ok ht).trans hu, hstored, honly⟩

/-- An instruction that is a push followed by a jump meets the contract of a push. -/
theorem PushesThen.of_exec {i : Instr} {pc : Word} (h : exec i s = ((s.push16 w).andThen fun u => .ok (u.setPc pc)).result) :
    PushesThen i s w pc := by
  have hdone : ∀ {u}, s.push16 w = .ok u → exec i s = .next (u.setPc pc) := fun hu => by rw [h, hu]; rfl
  have hraise : ∀ {e u}, s.push16 w = .err e u → exec i s = .next (u.raise e) := fun hu => by rw [h, hu]; rfl
  refine ⟨fun t u h1 h2 => hdone ((State.push16_ok h1).trans h2), fun e t h1 => hraise (State.push16_err h1),
    fun t e u h1 h2 => hraise ((State.push16_ok h1).trans h2), fun hm h1 h2 hne => ?ram⟩
  case ram =>
    obtain ⟨u, hu, hstored, honly⟩ := State.push16_ram hm h1 h2 hne w
    exact ⟨u.setPc pc, hdone hu, by rw [State.setPc, State.push16_regs hu], hstored, honly.withRegs _⟩

end Push

/-! A pop (R19). -/

section Pop
variable {s : State} {lo hi : Byte} {e : StepError} {f : Word → State → State}

theorem State.pop16_ok {k : Word → State → Run} (hlo : s.memRead s.regs.sp = .ok lo)
    (hhi : s.memRead (s.regs.sp + 1) = .ok hi) : s.pop16 k = k (concat16 hi lo) (s.setSp (s.regs.sp + 2)) := by
  have hsp : s.regs.sp + 1 + 1 = s.regs.sp + 2 := by bv_omega
  calc s.pop16 k
    _ = (s.setSp (s.regs.sp + 1)).readThen (s.regs.sp + 1) fun hi =>
          k (concat16 hi lo) ((s.setSp (s.regs.sp + 1)).setSp (s.regs.sp + 1 + 1)) := State.readThen_ok hlo
    _ = k (concat16 hi lo) (s.setSp (s.regs.sp + 1 + 1)) := State.readThen_ok hhi
    _ = _ := by rw [hsp]

theorem State.pop16_error_lo {k : Word → State → Run} (hlo : s.memRead s.regs.sp = .error e) : s.pop16 k = .err e s :=
  State.readThen_error hlo

theorem State.pop16_error_hi {k : Word → State → Run} (hlo : s.memRead s.regs.sp = .ok lo)
    (hhi : s.memRead (s.regs.sp + 1) = .error e) : s.pop16 k = .err e (s.setSp (s.regs.sp + 1)) :=
  (State.readThen_ok hlo).trans (State.readThen_error hhi)

/-- An instruction that is a pop followed by an update `f` meets the contract of a pop, once `f` keeps SP and leads to `k`. -/
theorem PopsThen.of_exec {i : Instr} {k : Word → State → Prop} (h : exec i s = (s.pop16 fun w t => .ok (f w t)).result)
    (hsp : ∀ w t, (f w t).regs.sp = t.regs.sp) (hk : ∀ w, k w (f w (s.setSp (s.regs.sp + 2)))) : PopsThen i s k := by
  refine ⟨fun lo hi hlo hhi => ⟨f (hi ++ lo) (s.setSp (s.regs.sp + 2)), ?_, hsp _ _, hk _⟩, fun e hlo => ?_,
    fun lo e hlo hhi => ?_⟩
  · rw [h, State.pop16_ok hlo hhi]; rfl
  · rw [h, State.pop16_error_lo hlo]; rfl
  · rw [h, State.pop16_error_hi hlo hhi]; rfl

end Pop

end Sys2Proof.Machine
end

section
/-! The 16-bit loads, PUSH and POP (41_load16 R450 to R455). -/

namespace Sys2Proof.Machine

/-! Writing a pair. -/

theorem State.pair_setPair_ne (s : State) {p q : Pair} (w : Word) (h : q ≠ p) : (s.setPair p w).pair q = s.pair q := by
  cases p <;> cases q
  case bc.bc | de.de | hl.hl | sp.sp => exact absurd rfl h
  all_goals rfl

theorem State.reg_a_setPair (s : State) (p : Pair) (w : Word) : (s.setPair p w).reg .a = s.reg .a := by cases p <;> rfl

theorem OnlyRegs.setPair (s : State) (p : Pair) (w : Word) : OnlyRegs s (s.setPair p w) := by
  cases p <;> exact .withRegs s _

theorem State.stackPair_setStackPair (s : State) {p : StackPair} (w : Word) (h : p ≠ .af) :
    (s.setStackPair p w).stackPair p = w := by
  cases p with
  | bc => exact s.bc_setBc w
  | de => exact s.de_setDe w
  | hl => exact s.hl_setHl w
  | af => exact absurd rfl h

theorem State.stackPair_setStackPair_ne (s : State) {p q : StackPair} (w : Word) (h : q ≠ p) :
    (s.setStackPair p w).stackPair q = s.stackPair q := by
  cases p <;> cases q
  case bc.bc | de.de | hl.hl | af.af => exact absurd rfl h
  all_goals rfl

theorem State.flags_setStackPair (s : State) {p : StackPair} (w : Word) (h : p ≠ .af) :
    (s.setStackPair p w).flags = s.flags := by
  cases p with
  | bc => exact s.flags_setBc w
  | de => exact s.flags_setDe w
  | hl => exact s.flags_setHl w
  | af => exact absurd rfl h

/-- F reads back as the low byte written to AF with its low nibble 0 (R455). -/
theorem State.flagByte_setAf (s : State) (w : Word) : (s.setAf w).flagByte = loByte w &&& 0xF0 := nibble_mask (loByte w)

/-- The flags lie above the nibble that F discards. -/
theorem flagsOf_masked (v : Byte) : flagsOf (v &&& 0xF0) = flagsOf v := by
  simp [flagsOf, bitAt]

theorem flagsOf_loByte (w : Word) : flagsOf (loByte w) = ⟨w.getLsbD 7, w.getLsbD 6, w.getLsbD 5, w.getLsbD 4⟩ := by
  simp [flagsOf, bitAt, loByte]

theorem State.flags_setAf (s : State) (w : Word) :
    (s.setAf w).flags = ⟨w.getLsbD 7, w.getLsbD 6, w.getLsbD 5, w.getLsbD 4⟩ := by
  rw [State.flags, State.flagByte_setAf, flagsOf_masked, flagsOf_loByte]

theorem KeepsRegs8.setAf (s : State) (w : Word) : KeepsRegs8 [.a] s (s.setAf w) := by
  intro q hq
  cases q
  case a => exact absurd (List.mem_singleton_self _) hq
  all_goals rfl

/-! LD rr,d16, LD SP,HL and LD (a16),SP (R450 to R452). -/

theorem exec_ldPairImm (p : Pair) (nn : Word) (s : State) : exec (ldPairImm p nn) s = .next (s.setPair p nn) := by
  cases p <;> rfl

theorem spells_ldPairImm (p : Pair) (nn : Word) :
    Spells (ldPairImm p nn) [0x01 ||| pairCode p <<< 4, nn.extractLsb' 0 8, nn.extractLsb' 8 8] 12 12 := by
  cases p <;> exact .primary rfl (by decide) rfl

theorem exec_ldAtA16SP (a : Word) (s : State) : exec (.ldAtA16SP a) s = (s.memWrite16 a s.regs.sp).result := rfl

/-- What writing one pair does, in the terms of `WordLoads`. -/
theorem State.setPair_spec (s : State) (p : Pair) (w : Word) :
    (s.setPair p w).pair p = w ∧ (∀ q, q ≠ p → (s.setPair p w).pair q = s.pair q) ∧ (s.setPair p w).reg .a = s.reg .a ∧
      (s.setPair p w).flags = s.flags ∧ (s.setPair p w).regs.pc = s.regs.pc ∧ OnlyRegs s (s.setPair p w) :=
  ⟨s.pair_setPair p w, fun _ hq => s.pair_setPair_ne w hq, s.reg_a_setPair p w, s.flags_setPair p w, s.setPair_pc p w,
    .setPair s p w⟩

/-- Settles O15: the loads write one pair, and LD (a16),SP ends as the 16-bit store of SP does. -/
theorem wordLoads : Obligations.WordLoads := by
  refine ⟨⟨fun p nn s => ⟨⟨_, exec_ldPairImm p nn s, s.setPair_spec p nn⟩, spells_ldPairImm p nn⟩, fun _ => rfl,
    .primary rfl (by decide) rfl⟩, fun s a => ?store⟩
  case store =>
    have hdone : ∀ {u}, s.memWrite16 a s.regs.sp = .ok u → exec (.ldAtA16SP a) s = .next u ∧ u.regs = s.regs := fun hu =>
      ⟨(exec_ldAtA16SP a s).trans (congrArg Run.result hu), State.memWrite16_regs hu⟩
    have hraise : ∀ {e u}, s.memWrite16 a s.regs.sp = .err e u → exec (.ldAtA16SP a) s = .next (u.raise e) := fun hu =>
      (exec_ldAtA16SP a s).trans (congrArg Run.result hu)
    refine ⟨fun t u h1 h2 => hdone ((State.memWrite16_ok h1).trans h2), fun e t h1 => hraise (State.memWrite16_err h1),
      fun t e u h1 h2 => hraise ((State.memWrite16_ok h1).trans h2), fun hm h1 h2 hne => ?ram, .primary rfl (by decide) rfl⟩
    case ram =>
      obtain ⟨u, hu, hstored, honly⟩ := State.memWrite16_ram hm h1 h2 hne s.regs.sp
      obtain ⟨hexec, hregs⟩ := hdone hu
      exact ⟨u, hexec, hregs, hstored, honly⟩

/-! PUSH and POP (R453 to R455). -/

/-- PUSH leaves PC where it is: the push, then a jump to the PC it started with. -/
theorem exec_pushPair (p : StackPair) (s : State) :
    exec (pushPair p) s = ((s.push16 (s.stackPair p)).andThen fun u => .ok (u.setPc s.regs.pc)).result := by
  have hexec : exec (pushPair p) s = (s.push16 (s.stackPair p)).result := by cases p <;> rfl
  rw [hexec]
  cases h : s.push16 (s.stackPair p) with
  | err e u => rfl
  | ok u =>
    have hpc : u.regs.pc = s.regs.pc := by rw [State.push16_regs h]
    rw [← hpc]
    rfl

theorem exec_popPair (p : StackPair) (s : State) :
    exec (popPair p) s = (s.pop16 fun w t => .ok (t.setStackPair p w)).result := by
  cases p <;> rfl

theorem spells_pushPair (p : StackPair) : Spells (pushPair p) [0xC5 ||| stackPairCode p <<< 4] 16 16 := by
  cases p <;> exact .primary rfl (by decide) rfl

theorem spells_popPair (p : StackPair) : Spells (popPair p) [0xC1 ||| stackPairCode p <<< 4] 12 12 := by
  cases p <;> exact .primary rfl (by decide) rfl

/-- Writing SP and then a pair of the stack is no more than registers. -/
theorem OnlyRegs.setStackPair_setSp (s : State) (p : StackPair) (n w : Word) : OnlyRegs s ((s.setSp n).setStackPair p w) := by
  cases p <;> exact .withRegs s _

/-- Settles O16: PUSH is a push of the pair's word, POP a pop followed by the write of the pair. -/
theorem pushPop : Obligations.PushPop := by
  refine ⟨fun p s => ⟨.of_exec (exec_pushPair p s), spells_pushPair p⟩, fun p s hp => ?pair, fun s => ?af, spells_popPair⟩
  case pair =>
    refine .of_exec (exec_popPair p s) (fun w t => t.setStackPair_sp p w) fun w =>
      ⟨State.stackPair_setStackPair _ w hp, fun q hq => ?_, State.flags_setStackPair _ w hp, State.setStackPair_pc _ p w,
        .setStackPair_setSp s p _ w⟩
    rw [State.stackPair_setStackPair_ne _ w hq]
    cases q <;> rfl
  case af =>
    exact .of_exec (exec_popPair .af s) (fun w t => t.setStackPair_sp .af w) fun w =>
      ⟨rfl, State.flagByte_setAf _ w, State.flags_setAf _ w, KeepsRegs8.setAf _ w, rfl, .setStackPair_setSp s .af _ w⟩

end Sys2Proof.Machine
end

section
/-! What an instruction that writes registers and flags leaves unchanged, and the contract of a read-modify-write at (HL). -/

namespace Sys2Proof.Machine

theorem KeepsRegs.setFlags (s : State) (f : Flags) : KeepsRegs [] s (s.setFlags f) :=
  ⟨fun q _ => s.reg_setFlags f q, rfl, rfl⟩

/-- What writing the flags does. -/
theorem State.setFlags_spec (s : State) (f : Flags) :
    (s.setFlags f).flags = f ∧ KeepsRegs [] s (s.setFlags f) ∧ OnlyRegs s (s.setFlags f) :=
  ⟨s.flags_setFlags f, .setFlags s f, .withRegs s _⟩

/-- What writing one register and then the flags does. -/
theorem State.setReg_setFlags_spec (s : State) (r : Reg8) (v : Byte) (f : Flags) :
    ((s.setReg r v).setFlags f).reg r = v ∧ ((s.setReg r v).setFlags f).flags = f ∧
      KeepsRegs [r] s ((s.setReg r v).setFlags f) ∧ OnlyRegs s ((s.setReg r v).setFlags f) := by
  refine ⟨?_, State.flags_setFlags _ f, (KeepsRegs.setReg s r v).trans (.setFlags _ f), ?_⟩
  · rw [State.reg_setFlags, State.reg_setReg_same]
  · cases r <;> exact .withRegs s _

/-- Writing a register with the value it has changes nothing. -/
theorem State.setReg_reg (s : State) (r : Reg8) : s.setReg r (s.reg r) = s := by cases r <;> rfl

section Modify
variable {s t : State} {v : Byte} {e : StepError} {f : Byte → Byte × Flags}

theorem State.modifyAtHL_ok (hv : s.memRead s.hl = .ok v) (ht : s.memWrite s.hl (f v).1 = .ok t) :
    s.modifyAtHL f = .next (t.setFlags (f v).2) := by
  rw [State.modifyAtHL, State.readThen_ok hv, State.writeThen_ok ht]
  rfl

theorem State.modifyAtHL_error (he : s.memRead s.hl = .error e) : s.modifyAtHL f = .next (s.raise e) :=
  congrArg Run.result (State.readThen_error he)

theorem State.modifyAtHL_err (hv : s.memRead s.hl = .ok v) (ht : s.memWrite s.hl (f v).1 = .err e t) :
    s.modifyAtHL f = .next (t.raise e) := by
  rw [State.modifyAtHL, State.readThen_ok hv, State.writeThen_err ht]
  rfl

/-- An instruction that is a read-modify-write at (HL) meets the contract, with the result and the flags it computes. -/
theorem ModifiesAtHL.of_exec {i : Instr} {res : Byte → Byte} {fl : Byte → Flags} (h : exec i s = s.modifyAtHL f)
    (hf : ∀ v, f v = (res v, fl v)) : ModifiesAtHL i s res fl := by
  have hdone : ∀ {v t}, s.memRead s.hl = .ok v → s.memWrite s.hl (res v) = .ok t →
      exec i s = .next (t.setFlags (fl v)) ∧ (t.setFlags (fl v)).flags = fl v ∧ KeepsRegs [] s (t.setFlags (fl v)) := by
    intro v t hv ht
    obtain ⟨hflags, hkeeps, -⟩ := t.setFlags_spec (fl v)
    have hexec := State.modifyAtHL_ok (f := f) hv (by rw [hf]; exact ht)
    rw [← h, hf] at hexec
    exact ⟨hexec, hflags, (KeepsRegs.of_regs (State.memWrite_ok_keeps ht).regs).trans hkeeps⟩
  refine ⟨fun v t hv ht => ?completes, fun e he => h.trans (State.modifyAtHL_error he), fun v e t hv ht => ?raises,
    fun v hm ha hv => ?ram⟩
  case completes =>
    obtain ⟨hexec, hflags, hkeeps⟩ := hdone hv ht
    exact ⟨_, hexec, hflags, hkeeps, rfl⟩
  case raises => exact h.trans (State.modifyAtHL_err hv (by rw [hf]; exact ht))
  case ram =>
    obtain ⟨t, ht, hstored, honly⟩ := ha.memWrite hm (res v)
    obtain ⟨hexec, hflags, hkeeps⟩ := hdone hv ht
    exact ⟨_, hexec, hflags, hkeeps, hstored.withRegs _, honly.withRegs _⟩

end Modify

end Sys2Proof.Machine
end

section
/-! The accumulator operations (42_alu8 R500 to R506, R510 to R533): the three operand forms write A and the flags alike, and each
primitive gives its rule's result and flags. -/

namespace Sys2Proof.Machine

/-! The operand forms (R500). -/

theorem exec_aluReg (op : AluOp) (r : Reg8) (s : State) : exec (aluReg op r) s = .next (s.alu op (s.reg r)) := by
  cases op <;> cases r <;> rfl

theorem exec_aluAtHL (op : AluOp) (s : State) : exec (aluAtHL op) s = s.withByteAt s.hl (s.alu op) := by cases op <;> rfl

theorem exec_aluImm (op : AluOp) (n : Byte) (s : State) : exec (aluImm op n) s = .next (s.alu op n) := by cases op <;> rfl

theorem exec_aluAtHL_error {s : State} {e : StepError} (op : AluOp) (h : s.memRead s.hl = .error e) :
    exec (aluAtHL op) s = .next (s.raise e) :=
  (exec_aluAtHL op s).trans (State.withByteAt_error h)

section Form
variable {s : State} {op : AluOp} {i : Instr} {v : Byte} {bs : List Byte} {c : Nat}

/-- Every form does the operation on its operand. -/
theorem AluForm.exec_eq (h : AluForm s op i v bs c) : exec i s = .next (s.alu op v) := by
  cases h with
  | reg r => exact exec_aluReg op r s
  | atHL _ hv => exact (exec_aluAtHL op s).trans (State.withByteAt_ok hv)
  | imm => exact exec_aluImm op v s

theorem AluForm.spells (h : AluForm s op i v bs c) : Spells i bs c c := by
  cases h with
  | reg r => cases op <;> cases r <;> exact .primary rfl (by decide) rfl
  | atHL => cases op <;> exact .primary rfl (by decide) rfl
  | imm => cases op <;> exact .primary rfl (by decide) rfl

/-- Every form writes A and the flags with what the operation computes, and nothing else. -/
theorem AluForm.writes (h : AluForm s op i v bs c) {res : Byte} {f : Flags}
    (hr : aluResult op (s.reg .a) v s.flags.c = (res, f)) :
    ∃ t, exec i s = .next t ∧ t.reg .a = res ∧ t.flags = f ∧ KeepsRegs [.a] s t ∧ OnlyRegs s t := by
  have halu : s.alu op v = (s.setReg .a res).setFlags f := by rw [State.alu, hr]
  exact ⟨_, h.exec_eq.trans (congrArg _ halu), s.setReg_setFlags_spec .a res f⟩

end Form

/-! ADD and ADC (R501). -/

/-- ADD adds without a carry, ADC with the carry flag. -/
theorem aluResult_add {op : AluOp} {cin : Nat} {c : Bool}
    (h : (op = .add ∧ cin = 0) ∨ (op = .adc ∧ cin = if c then 1 else 0)) (a v : Byte) :
    ∃ b, bitNat b = cin ∧ aluResult op a v c = add8 a v b := by
  obtain ⟨rfl, rfl⟩ | ⟨rfl, rfl⟩ := h
  · exact ⟨false, rfl, rfl⟩
  · exact ⟨c, rfl, rfl⟩

theorem toNat_add8 (a v : Byte) (b : Bool) : (add8 a v b).1.toNat = (a.toNat + v.toNat + bitNat b) % 256 :=
  BitVec.toNat_ofNat _ 8

/-- Settles O17: every form of ADD and ADC writes A and the flags with `add8` of its carry in. -/
theorem addAdc : Obligations.AddAdc := by
  refine ⟨fun s op i v cin bs c hop hform => ⟨?_, hform.spells⟩, fun op s e _ he => exec_aluAtHL_error op he⟩
  obtain ⟨b, rfl, hres⟩ := aluResult_add hop (s.reg .a) v
  obtain ⟨t, hexec, ha, hflags, hframe⟩ := hform.writes hres
  exact ⟨t, hexec, by rw [ha]; exact toNat_add8 _ v b, by rw [hflags, ha], hframe⟩

/-! SUB, SBC and CP (R502, R506). -/

/-- SUB subtracts without a borrow, SBC with the carry flag. -/
theorem aluResult_sub {op : AluOp} {cin : Nat} {c : Bool}
    (h : (op = .sub ∧ cin = 0) ∨ (op = .sbc ∧ cin = if c then 1 else 0)) (a v : Byte) :
    ∃ b, bitNat b = cin ∧ aluResult op a v c = sub8 a v b := by
  obtain ⟨rfl, rfl⟩ | ⟨rfl, rfl⟩ := h
  · exact ⟨false, rfl, rfl⟩
  · exact ⟨c, rfl, rfl⟩

theorem bitNat_le_one (b : Bool) : bitNat b ≤ 1 := by cases b <;> decide

theorem toNat_sub8 (a v : Byte) (b : Bool) : (sub8 a v b).1.toNat = (a.toNat + 512 - v.toNat - bitNat b) % 256 := by
  have hb := bitNat_le_one b
  simp only [sub8, BitVec.toNat_sub, BitVec.toNat_ofNat]
  omega

/-- Without a borrow in, the flags of a subtraction compare the operands. -/
theorem sub8_false_flags (a v : Byte) :
    (sub8 a v false).2 = ⟨decide (a = v), true, decide (a.toNat % 16 < v.toNat % 16), decide (a.toNat < v.toNat)⟩ := by
  have hz : a - v = 0#8 ↔ a = v := sub_eq_zero
  simp [sub8, bitNat, hz]

/-- CP writes the flags only. -/
theorem State.alu_cp (s : State) (v : Byte) : s.alu .cp v = s.setFlags (sub8 (s.reg .a) v false).2 :=
  congrArg (State.setFlags · _) (s.setReg_reg .a)

/-- Settles O18: every form of SUB and SBC writes A and the flags with `sub8` of its borrow in, CP the flags of `sub8` alone. -/
theorem subSbcCp : Obligations.SubSbcCp := by
  refine ⟨⟨fun s op i v cin bs c hop hform => ⟨?sub, hform.spells⟩, fun op s e _ he => exec_aluAtHL_error op he⟩,
    fun s i v bs c hform => ⟨?cp, hform.spells⟩, fun s e he => exec_aluAtHL_error .cp he⟩
  case sub =>
    obtain ⟨b, rfl, hres⟩ := aluResult_sub hop (s.reg .a) v
    obtain ⟨t, hexec, ha, hflags, hframe⟩ := hform.writes hres
    exact ⟨t, hexec, by rw [ha]; exact toNat_sub8 _ v b, by rw [hflags, ha], hframe⟩
  case cp =>
    rw [hform.exec_eq, State.alu_cp, sub8_false_flags]
    exact ⟨_, rfl, s.setFlags_spec _⟩

/-! AND, XOR and OR (R503 to R505). -/

/-- Each logic operation works bit by bit, sets Z from its result and H by its rule, and clears N and C. -/
theorem aluResult_logic {op : AluOp} {f : Bool → Bool → Bool} {h : Bool}
    (hop : (op = .and ∧ f = and ∧ h = true) ∨ (op = .xor ∧ f = xor ∧ h = false) ∨ (op = .or ∧ f = or ∧ h = false))
    (a v : Byte) (c : Bool) :
    ∃ res, aluResult op a v c = (res, ⟨decide (res = 0), false, h, false⟩) ∧
      ∀ k, res.getLsbD k = f (a.getLsbD k) (v.getLsbD k) := by
  obtain ⟨rfl, rfl, rfl⟩ | ⟨rfl, rfl, rfl⟩ | ⟨rfl, rfl, rfl⟩ := hop
  · exact ⟨a &&& v, rfl, fun _ => BitVec.getLsbD_and⟩
  · exact ⟨a ^^^ v, rfl, fun _ => BitVec.getLsbD_xor⟩
  · exact ⟨a ||| v, rfl, fun _ => BitVec.getLsbD_or⟩

/-- Settles O19: every form of AND, XOR and OR writes A and the flags as `aluResult_logic` says. -/
theorem andXorOr : Obligations.AndXorOr := by
  refine ⟨fun s op f h i v bs c hop hform => ⟨?_, hform.spells⟩, fun op s e _ he => exec_aluAtHL_error op he⟩
  obtain ⟨res, hres, hbits⟩ := aluResult_logic hop (s.reg .a) v s.flags.c
  obtain ⟨t, hexec, rfl, hrest⟩ := hform.writes hres
  exact ⟨t, hexec, fun k _ => hbits k, hrest⟩

end Sys2Proof.Machine
end

section
/-! INC and DEC of a byte (42_alu8 R507, R508, R540 to R543). -/

namespace Sys2Proof.Machine

/-- The low nibble as a number. -/
theorem toNat_and_0x0F (a : Byte) : (a &&& 0x0F).toNat = a.toNat % 16 := by
  rw [BitVec.toNat_and]
  exact Nat.and_two_pow_sub_one_eq_mod a.toNat 4

theorem inc8_eq (a : Byte) (f : Flags) :
    inc8 a f = (a + 1, ⟨decide (a = 0xFF), false, decide (a.toNat % 16 = 15), f.c⟩) := by
  have hz : a + 1 = 0 ↔ a = 0xFF := by bv_omega
  have hh : a &&& 0x0F = 0x0F ↔ a.toNat % 16 = 15 := by rw [← BitVec.toNat_inj, toNat_and_0x0F]; rfl
  simp only [inc8, hz, hh]

theorem dec8_eq (a : Byte) (f : Flags) :
    dec8 a f = (a - 1, ⟨decide (a = 0x01), true, decide (a.toNat % 16 = 0), f.c⟩) := by
  have hz : a - 1 = 0 ↔ a = 0x01 := sub_eq_zero
  have hh : a &&& 0x0F = 0 ↔ a.toNat % 16 = 0 := by rw [← BitVec.toNat_inj, toNat_and_0x0F]; rfl
  simp only [dec8, hz, hh]

theorem exec_incReg (r : Reg8) (s : State) :
    exec (incReg r) s = .next ((s.setReg r (inc8 (s.reg r) s.flags).1).setFlags (inc8 (s.reg r) s.flags).2) := by
  cases r <;> rfl

theorem exec_decReg (r : Reg8) (s : State) :
    exec (decReg r) s = .next ((s.setReg r (dec8 (s.reg r) s.flags).1).setFlags (dec8 (s.reg r) s.flags).2) := by
  cases r <;> rfl

theorem spells_incReg (r : Reg8) : Spells (incReg r) [0x04 ||| regCode r <<< 3] 4 4 := by
  cases r <;> exact .primary rfl (by decide) rfl

theorem spells_decReg (r : Reg8) : Spells (decReg r) [0x05 ||| regCode r <<< 3] 4 4 := by
  cases r <;> exact .primary rfl (by decide) rfl

/-- Settles O20: a register is stepped by one register write and one flag write, (HL) by a read-modify-write. -/
theorem incDec : Obligations.IncDec := by
  refine ⟨fun r s => ⟨?inc, ?dec, spells_incReg r, spells_decReg r⟩,
    fun s => ⟨.of_exec rfl fun v => inc8_eq v s.flags, .of_exec rfl fun v => dec8_eq v s.flags⟩,
    .primary rfl (by decide) rfl, .primary rfl (by decide) rfl⟩
  case inc =>
    rw [exec_incReg, inc8_eq]
    exact ⟨_, rfl, s.setReg_setFlags_spec r _ _⟩
  case dec =>
    rw [exec_decReg, dec8_eq]
    exact ⟨_, rfl, s.setReg_setFlags_spec r _ _⟩

end Sys2Proof.Machine
end

section
/-! DAA, CPL, SCF and CCF (42_alu8 R509, R550 to R553), and what DAA makes of packed-BCD sums and differences. -/

namespace Sys2Proof.Machine

/-! The decimal adjust (R509). -/

/-- DAA sets Z from its result, keeps N and clears H. -/
theorem daa8_flags (a : Byte) (f : Flags) :
    (daa8 a f).2.z = decide ((daa8 a f).1 = 0) ∧ (daa8 a f).2.n = f.n ∧ (daa8 a f).2.h = false := by
  unfold daa8
  split <;> exact ⟨rfl, rfl, rfl⟩

theorem toNat_add_if (b : Bool) (a k : Byte) : (if b then a + k else a).toNat = (a.toNat + if b then k.toNat else 0) % 256 := by
  cases b with
  | true => exact BitVec.toNat_add a k
  | false => exact (Nat.mod_eq_of_lt a.isLt).symm

theorem toNat_sub_if (b : Bool) (a k : Byte) :
    (if b then a - k else a).toNat = (a.toNat + 256 - if b then k.toNat else 0) % 256 := by
  have ha := a.isLt
  have hk := k.isLt
  cases b with
  | true =>
    simp only [if_true, BitVec.toNat_sub]
    omega
  | false =>
    simp only [Bool.false_eq_true, if_false]
    omega

/-- After an add: 60 for a carry or a byte above 99, 06 for a half-carry or a low digit above 9 (which the 60 leaves alone), and C
for the first. -/
theorem daa8_after_add {f : Flags} (hn : f.n = false) (a : Byte) :
    (daa8 a f).1.toNat = (a.toNat + (if f.c ∨ a.toNat > 0x99 then 0x60 else 0) +
      (if f.h ∨ a.toNat % 16 > 9 then 0x06 else 0)) % 256 ∧
    (daa8 a f).2.c = decide (f.c ∨ a.toNat > 0x99) := by
  have h60 : (0x60 : Byte).toNat = 0x60 := rfl
  have h06 : (0x06 : Byte).toNat = 0x06 := rfl
  have hlow (b : Bool) : ((if b then a + 0x60 else a) &&& 0x0F).toNat = a.toNat % 16 := by
    rw [toNat_and_0x0F, toNat_add_if, h60]
    split <;> omega
  simp only [daa8, hn, Bool.false_eq_true, if_false, hlow, toNat_add_if, h60, h06, Nat.mod_add_mod]
  simp only [Bool.or_eq_true, decide_eq_true_eq, Bool.decide_or, Bool.decide_eq_true, and_self]

/-- After a subtract: 60 for the borrow, 06 for the half-borrow, and C kept. -/
theorem daa8_after_sub {f : Flags} (hn : f.n = true) (a : Byte) :
    (daa8 a f).1.toNat = (a.toNat + 512 - (if f.c then 0x60 else 0) - (if f.h then 0x06 else 0)) % 256 ∧
    (daa8 a f).2.c = f.c := by
  have h60 : (0x60 : Byte).toNat = 0x60 := rfl
  have h06 : (0x06 : Byte).toNat = 0x06 := rfl
  simp only [daa8, hn, if_true, toNat_sub_if, h60, h06, and_true]
  split <;> split <;> omega

theorem exec_daa (s : State) :
    exec .daa s = .next ((s.setReg .a (daa8 (s.reg .a) s.flags).1).setFlags (daa8 (s.reg .a) s.flags).2) := rfl

theorem exec_cpl (s : State) :
    exec .cpl s = .next ((s.setReg .a (~~~(s.reg .a))).setFlags { s.flags with n := true, h := true }) := rfl

/-- Settles O21: DAA and CPL write A and the flags, SCF and CCF the flags alone. -/
theorem accumulatorAdjust : Obligations.AccumulatorAdjust := by
  refine ⟨⟨fun s => ?daa, .primary rfl (by decide) rfl⟩, fun s => ⟨?cpl, ⟨_, rfl, s.setFlags_spec _⟩, _, rfl, s.setFlags_spec _⟩,
    .primary rfl (by decide) rfl, .primary rfl (by decide) rfl, .primary rfl (by decide) rfl⟩
  case daa =>
    obtain ⟨ha, hflags, hframe⟩ := s.setReg_setFlags_spec .a (daa8 (s.reg .a) s.flags).1 (daa8 (s.reg .a) s.flags).2
    refine ⟨_, exec_daa s, ?_⟩
    rw [ha, hflags]
    obtain ⟨hz, hn, hh⟩ := daa8_flags (s.reg .a) s.flags
    exact ⟨fun h => daa8_after_add h _, fun h => daa8_after_sub h _, hz, hn, hh, hframe⟩
  case cpl =>
    obtain ⟨ha, hrest⟩ := s.setReg_setFlags_spec .a (~~~(s.reg .a)) { s.flags with n := true, h := true }
    refine ⟨_, exec_cpl s, fun k hk => ?_, hrest⟩
    rw [ha, BitVec.getLsbD_not, decide_eq_true hk, Bool.true_and]

/-! Packed BCD. -/

/-- The packed-BCD byte of a number modulo 100. -/
def packedBcd (n : Nat) : Byte := BitVec.ofNat 8 (n / 10 % 10 * 16 + n % 10)

theorem toNat_packedBcd {n c p q : Nat} (h : n = 100 * c + 10 * p + q) (hp : p < 10) (hq : q < 10) :
    (packedBcd n).toNat = 16 * p + q := by
  have hp' : n / 10 % 10 = p := by omega
  have hq' : n % 10 = q := by omega
  rw [packedBcd, hp', hq', BitVec.toNat_ofNat]
  omega

/-- The tens and the units of a two-digit number. -/
theorem exists_digits {n : Nat} (h : n < 100) : ∃ p q, n = 100 * 0 + 10 * p + q ∧ p < 10 ∧ q < 10 :=
  ⟨n / 10, n % 10, by omega, by omega, by omega⟩

/-- One column of a decimal addition: digit and carry. -/
theorem exists_carry {p q k : Nat} (hp : p < 10) (hq : q < 10) (hk : k = 0 ∨ k = 1) :
    ∃ c d, p + q + k = 10 * c + d ∧ (c = 0 ∨ c = 1) ∧ d < 10 :=
  ⟨(p + q + k) / 10, (p + q + k) % 10, by omega, by omega, by omega⟩

/-- One column of a decimal subtraction: digit and borrow. -/
theorem exists_borrow {p q k : Nat} (hp : p < 10) (hq : q < 10) (hk : k = 0 ∨ k = 1) :
    ∃ c d, p + 10 * c = q + k + d ∧ (c = 0 ∨ c = 1) ∧ d < 10 := by
  by_cases h : p < q + k
  · exact ⟨1, p + 10 - q - k, by omega, by omega, by omega⟩
  · exact ⟨0, p - q - k, by omega, by omega, by omega⟩

section Columns
variable {a v : Byte} {p q p' q' : Nat} (ha : a.toNat = 16 * p + q) (hv : v.toNat = 16 * p' + q') (hq : q < 10) (hq' : q' < 10)
include ha hv hq hq'

/-- The sum of two packed-BCD bytes and its carries, in their digits. -/
theorem add8_digits :
    (add8 a v false).1.toNat = (16 * (p + p') + (q + q')) % 256 ∧ (add8 a v false).2.h = decide (q + q' > 15) ∧
      (add8 a v false).2.c = decide (16 * (p + p') + (q + q') > 255) := by
  rw [toNat_add8]
  simp only [add8, ha, hv, bitNat, decide_eq_decide, Bool.false_eq_true, if_false]
  omega

/-- The difference of two packed-BCD bytes and its borrows, in their digits. -/
theorem sub8_digits :
    (sub8 a v false).1.toNat = (16 * p + q + 512 - (16 * p' + q')) % 256 ∧ (sub8 a v false).2.h = decide (q < q') ∧
      (sub8 a v false).2.c = decide (16 * p + q < 16 * p' + q') := by
  rw [toNat_sub8]
  simp only [sub8, ha, hv, bitNat, decide_eq_decide, Bool.false_eq_true, if_false]
  omega

end Columns

/-- DAA after the sum of two packed-BCD bytes: the correction of each digit is its column's decimal carry. -/
theorem daa8_add8_packedBcd {x y : Nat} (hx : x < 100) (hy : y < 100) :
    let sum := add8 (packedBcd x) (packedBcd y) false
    (daa8 sum.1 sum.2).1 = packedBcd (x + y) ∧ (daa8 sum.1 sum.2).2.c = decide (100 ≤ x + y) := by
  intro sum
  obtain ⟨p, q, hx, hp, hq⟩ := exists_digits hx
  obtain ⟨p', q', hy, hp', hq'⟩ := exists_digits hy
  obtain ⟨k, u, hlow, hk, hu⟩ := exists_carry hq hq' (.inl rfl)
  obtain ⟨c, w, hhigh, hc, hw⟩ := exists_carry hp hp' hk
  have hxy : (packedBcd (x + y)).toNat = 16 * w + u := toNat_packedBcd (c := c) (by omega) hw hu
  obtain ⟨hsum, hflagH, hflagC⟩ := add8_digits (toNat_packedBcd hx hp hq) (toNat_packedBcd hy hp' hq') hq hq'
  obtain ⟨hres, hcarry⟩ := daa8_after_add (f := sum.2) rfl sum.1
  rw [hsum, hflagC] at hres hcarry
  rw [hflagH] at hres
  have hhigh99 : 16 * (p + p') + (q + q') > 0x99 ↔ c = 1 := by omega
  have h60 : (16 * (p + p') + (q + q') > 255 ∨ (16 * (p + p') + (q + q')) % 256 > 0x99) ↔ c = 1 := by
    rw [← hhigh99]
    omega
  have h06 : (q + q' > 15 ∨ (16 * (p + p') + (q + q')) % 256 % 16 > 9) ↔ k = 1 := by omega
  simp only [decide_eq_true_eq, h60, h06] at hres hcarry
  refine ⟨BitVec.eq_of_toNat_eq ?_, ?_⟩
  · rw [hres, hxy]
    split <;> split <;> omega
  · rw [hcarry]
    exact decide_eq_decide.mpr (by omega)

/-- DAA after the difference of two packed-BCD bytes: the correction of each digit is its column's decimal borrow. -/
theorem daa8_sub8_packedBcd {x y : Nat} (hx : x < 100) (hy : y < 100) :
    let diff := sub8 (packedBcd x) (packedBcd y) false
    (daa8 diff.1 diff.2).1 = packedBcd (x + 100 - y) ∧ (daa8 diff.1 diff.2).2.c = decide (x < y) := by
  intro diff
  obtain ⟨p, q, hx, hp, hq⟩ := exists_digits hx
  obtain ⟨p', q', hy, hp', hq'⟩ := exists_digits hy
  obtain ⟨k, u, hlow, hk, hu⟩ := exists_borrow hq hq' (.inl rfl)
  obtain ⟨c, w, hhigh, hc, hw⟩ := exists_borrow hp hp' hk
  have hxy : (packedBcd (x + 100 - y)).toNat = 16 * w + u := toNat_packedBcd (c := 1 - c) (by omega) hw hu
  obtain ⟨hdiff, hflagH, hflagC⟩ := sub8_digits (toNat_packedBcd hx hp hq) (toNat_packedBcd hy hp' hq') hq hq'
  obtain ⟨hres, hborrow⟩ := daa8_after_sub (f := diff.2) rfl diff.1
  rw [hflagC] at hres hborrow
  rw [hdiff, hflagH] at hres
  have h60 : 16 * p + q < 16 * p' + q' ↔ c = 1 := by omega
  have h06 : q < q' ↔ k = 1 := by omega
  simp only [decide_eq_true_eq, h60, h06] at hres hborrow
  refine ⟨BitVec.eq_of_toNat_eq ?_, ?_⟩
  · rw [hres, hxy]
    split <;> split <;> omega
  · rw [hborrow]
    exact decide_eq_decide.mpr (by omega)

/-- Settles O22: the two directions, each digit by digit. -/
theorem decimalAdjustIsDecimal : Obligations.DecimalAdjustIsDecimal := by
  intro x y hx hy
  obtain ⟨hsum, hcarry⟩ := daa8_add8_packedBcd hx hy
  obtain ⟨hdiff, hborrow⟩ := daa8_sub8_packedBcd hx hy
  exact ⟨hsum, hcarry, hdiff, hborrow⟩

end Sys2Proof.Machine
end

section
/-! 16-bit arithmetic (43_alu16 R600 to R604): ADD HL and LD HL,SP+e8 write HL and the flags, INC and DEC one pair, ADD SP SP and
the flags. -/

namespace Sys2Proof.Machine

/-! Writing HL or SP, then the flags. -/

/-- What writing HL and then the flags does. -/
theorem State.setHl_setFlags_spec (s : State) (w : Word) (f : Flags) :
    ((s.setHl w).setFlags f).hl = w ∧ ((s.setHl w).setFlags f).flags = f ∧ KeepsRegs [.h, .l] s ((s.setHl w).setFlags f) ∧
      OnlyRegs s ((s.setHl w).setFlags f) :=
  ⟨s.hl_setHl w, State.flags_setFlags _ f, (KeepsRegs.setHl s w).trans (.setFlags _ f), .withRegs s _⟩

/-- What writing SP and then the flags does. -/
theorem State.setSp_setFlags_spec (s : State) (w : Word) (f : Flags) :
    ((s.setSp w).setFlags f).regs.sp = w ∧ ((s.setSp w).setFlags f).flags = f ∧ KeepsRegs8 [] s ((s.setSp w).setFlags f) ∧
      ((s.setSp w).setFlags f).regs.pc = s.regs.pc ∧ OnlyRegs s ((s.setSp w).setFlags f) := by
  refine ⟨rfl, State.flags_setFlags _ f, fun q _ => ?_, rfl, .withRegs s _⟩
  rw [State.reg_setFlags, State.reg_setSp]

/-! The pair forms (R600 to R602). -/

theorem exec_addHLPair (p : Pair) (s : State) :
    exec (addHLPair p) s =
      .next ((s.setHl (addHl16 s.hl (s.pair p) s.flags).1).setFlags (addHl16 s.hl (s.pair p) s.flags).2) := by
  cases p <;> rfl

theorem exec_incPair (p : Pair) (s : State) : exec (incPair p) s = .next (s.setPair p (s.pair p + 1)) := by cases p <;> rfl

theorem exec_decPair (p : Pair) (s : State) : exec (decPair p) s = .next (s.setPair p (s.pair p - 1)) := by cases p <;> rfl

theorem spells_addHLPair (p : Pair) : Spells (addHLPair p) [0x09 ||| pairCode p <<< 4] 8 8 := by
  cases p <;> exact .primary rfl (by decide) rfl

theorem spells_incPair (p : Pair) : Spells (incPair p) [0x03 ||| pairCode p <<< 4] 8 8 := by
  cases p <;> exact .primary rfl (by decide) rfl

theorem spells_decPair (p : Pair) : Spells (decPair p) [0x0B ||| pairCode p <<< 4] 8 8 := by
  cases p <;> exact .primary rfl (by decide) rfl

/-! SP plus a displacement (R603, R604). -/

theorem exec_addSPE8 (e : Byte) (s : State) :
    exec (.addSPE8 e) s = .next ((s.setSp (addSp16 s.regs.sp e).1).setFlags (addSp16 s.regs.sp e).2) := rfl

theorem exec_ldHLSPE8 (e : Byte) (s : State) :
    exec (.ldHLSPE8 e) s = .next ((s.setHl (addSp16 s.regs.sp e).1).setFlags (addSp16 s.regs.sp e).2) := rfl

/-- Settles O23: each instruction writes HL, SP or one pair with its sum, the flags with what `addHl16` or `addSp16` computes where
it writes them, and nothing else. -/
theorem wordArithmetic : Obligations.WordArithmetic :=
  ⟨fun p s => ⟨⟨_, exec_addHLPair p s, s.setHl_setFlags_spec _ _⟩, spells_addHLPair p⟩,
    fun p s => ⟨⟨_, exec_incPair p s, s.setPair_spec p _⟩, ⟨_, exec_decPair p s, s.setPair_spec p _⟩, spells_incPair p,
      spells_decPair p⟩,
    fun e s => ⟨⟨_, exec_addSPE8 e s, s.setSp_setFlags_spec _ _⟩, ⟨_, exec_ldHLSPE8 e s, s.setHl_setFlags_spec _ _⟩,
      .primary rfl (by decide) rfl, .primary rfl (by decide) rfl⟩⟩

end Sys2Proof.Machine
end

section
/-! The rotates, shifts and SWAP as fields of the operand (44_rotate_shift_bit R656 to R658), and the orders of rotation. -/

namespace Sys2Proof.Machine

/-! Result and bit shifted out, each byte compared bit by bit. -/

theorem getLsbD_bitByte {i : Nat} (hi : i < 8) (b : Bool) (k : Nat) : (bitByte i b).getLsbD k = (b && decide (i = k)) := by
  cases b
  case false => exact BitVec.getLsbD_zero
  case true =>
    have hpow : bitByte i true = BitVec.twoPow 8 i := BitVec.eq_of_toNat_eq (by simp [bitByte])
    rw [hpow, BitVec.getLsbD_twoPow, decide_eq_true hi]

/-- A shift to the left, bit 0 filled. -/
theorem shiftLeft_or_bitByte (v : Byte) (c : Bool) : v <<< 1 ||| bitByte 0 c = v.extractLsb' 0 7 ++ BitVec.ofBool c := by
  refine BitVec.eq_of_getLsbD_eq fun i hi => ?_
  rw [BitVec.getLsbD_append, BitVec.getLsbD_or, getLsbD_bitByte (by decide)]
  interval_cases i <;> simp

/-- A shift to the right, bit 7 filled. -/
theorem ushiftRight_or_bitByte (v : Byte) (c : Bool) : v >>> 1 ||| bitByte 7 c = BitVec.ofBool c ++ v.extractLsb' 1 7 := by
  refine BitVec.eq_of_getLsbD_eq fun i hi => ?_
  rw [BitVec.getLsbD_append, BitVec.getLsbD_or, getLsbD_bitByte (by decide)]
  interval_cases i <;> simp

theorem rotateLeft_one (v : Byte) : v.rotateLeft 1 = v.extractLsb' 0 7 ++ BitVec.ofBool (v.getLsbD 7) := by
  refine BitVec.eq_of_getLsbD_eq fun i hi => ?_
  rw [BitVec.getLsbD_append, BitVec.getLsbD_rotateLeft]
  interval_cases i <;> simp

theorem rotateRight_one (v : Byte) : v.rotateRight 1 = BitVec.ofBool (v.getLsbD 0) ++ v.extractLsb' 1 7 := by
  refine BitVec.eq_of_getLsbD_eq fun i hi => ?_
  rw [BitVec.getLsbD_append, BitVec.getLsbD_rotateRight]
  interval_cases i <;> simp

theorem sshiftRight_one (v : Byte) : v.sshiftRight 1 = BitVec.ofBool (v.getLsbD 7) ++ v.extractLsb' 1 7 := by
  refine BitVec.eq_of_getLsbD_eq fun i hi => ?_
  rw [BitVec.getLsbD_append, BitVec.getLsbD_sshiftRight]
  interval_cases i <;> simp [BitVec.msb_eq_getLsbD_last]

theorem extractLsb'_one (v : Byte) (k : Nat) : v.extractLsb' k 1 = BitVec.ofBool (v.getLsbD k) := by
  refine BitVec.eq_of_getLsbD_eq fun i hi => ?_
  obtain rfl : i = 0 := by omega
  simp

section RotShift
variable (v : Byte) (cin : Bool)

theorem rotShift_rlc : rotShift .rlc v cin = (v.rotateLeft 1, v.getLsbD 7) :=
  congrArg (·, _) ((shiftLeft_or_bitByte v _).trans (rotateLeft_one v).symm)

theorem rotShift_rrc : rotShift .rrc v cin = (v.rotateRight 1, v.getLsbD 0) :=
  congrArg (·, _) ((ushiftRight_or_bitByte v _).trans (rotateRight_one v).symm)

theorem rotShift_rl : rotShift .rl v cin = (v.extractLsb' 0 7 ++ BitVec.ofBool cin, v.getLsbD 7) :=
  congrArg (·, _) (shiftLeft_or_bitByte v cin)

theorem rotShift_rr : rotShift .rr v cin = (BitVec.ofBool cin ++ v.extractLsb' 1 7, v.getLsbD 0) :=
  congrArg (·, _) (ushiftRight_or_bitByte v cin)

/-- SLA fills bit 0 with 0. -/
theorem rotShift_sla : rotShift .sla v cin = (v.extractLsb' 0 7 ++ (0 : BitVec 1), v.getLsbD 7) :=
  congrArg (·, _) (BitVec.or_zero.symm.trans (shiftLeft_or_bitByte v false))

/-- SRA fills bit 7 with itself. -/
theorem rotShift_sra : rotShift .sra v cin = (v.sshiftRight 1, v.getLsbD 0) :=
  congrArg (·, _) ((ushiftRight_or_bitByte v _).trans (sshiftRight_one v).symm)

/-- SRL fills bit 7 with 0. -/
theorem rotShift_srl : rotShift .srl v cin = ((0 : BitVec 1) ++ v.extractLsb' 1 7, v.getLsbD 0) :=
  congrArg (·, _) (BitVec.or_zero.symm.trans (ushiftRight_or_bitByte v false))

theorem rotShift_swap : rotShift .swap v cin = (v.extractLsb' 0 4 ++ v.extractLsb' 4 4, false) := by
  refine congrArg (·, _) (BitVec.eq_of_getLsbD_eq fun i hi => ?_)
  rw [BitVec.getLsbD_append]
  interval_cases i <;> simp

end RotShift

/-! The orders of rotation (R656). -/

theorem getLsbD_rlc8 (v : Byte) {i : Nat} (hi : i < 8) : (rlc8 v).1.getLsbD i = v.getLsbD ((i + 7) % 8) := by
  rw [rlc8, BitVec.getLsbD_or, getLsbD_bitByte (by decide)]
  interval_cases i <;> simp [bitAt]

theorem getLsbD_rrc8 (v : Byte) {i : Nat} (hi : i < 8) : (rrc8 v).1.getLsbD i = v.getLsbD ((i + 1) % 8) := by
  rw [rrc8, BitVec.getLsbD_or, getLsbD_bitByte (by decide)]
  interval_cases i <;> simp [bitAt]

theorem rrc8_leftInverse : Function.LeftInverse (fun x => (rrc8 x).1) (fun x => (rlc8 x).1) := by
  refine fun v => BitVec.eq_of_getLsbD_eq fun i hi => ?_
  rw [getLsbD_rrc8 _ hi, getLsbD_rlc8 v (Nat.mod_lt _ (by decide))]
  congr 1
  omega

theorem rlc8_leftInverse : Function.LeftInverse (fun x => (rlc8 x).1) (fun x => (rrc8 x).1) :=
  rrc8_leftInverse.rightInverse_of_surjective (Finite.surjective_of_injective rrc8_leftInverse.injective)

/-- Rotations to the right return a byte exactly when as many to the left do. -/
theorem rrc8_iterate_eq_iff (n : Nat) (v : Byte) :
    (fun x => (rrc8 x).1)^[n] v = v ↔ (fun x => (rlc8 x).1)^[n] v = v :=
  ⟨fun h => Function.IsFixedPt.to_leftInverse h (rlc8_leftInverse.iterate n),
    fun h => Function.IsFixedPt.to_leftInverse h (rrc8_leftInverse.iterate n)⟩

theorem getLsbD_rlc8_iterate (v : Byte) (n : Nat) {i : Nat} (hi : i < 8) :
    ((fun x => (rlc8 x).1)^[n] v).getLsbD i = v.getLsbD ((i + 7 * n) % 8) := by
  induction n generalizing i with
  | zero => rw [Function.iterate_zero_apply, Nat.mul_zero, Nat.add_zero, Nat.mod_eq_of_lt hi]
  | succ n ih =>
    rw [Function.iterate_succ_apply', getLsbD_rlc8 _ hi, ih (Nat.mod_lt _ (by decide))]
    congr 1
    omega

theorem rlc8_iterate_eight (v : Byte) : (fun x => (rlc8 x).1)^[8] v = v := by
  refine BitVec.eq_of_getLsbD_eq fun i hi => ?_
  rw [getLsbD_rlc8_iterate v 8 hi]
  congr 1
  omega

/-- Four rotations swap the nibbles. -/
theorem rlc8_iterate_four (v : Byte) : (fun x => (rlc8 x).1)^[4] v = v.extractLsb' 0 4 ++ v.extractLsb' 4 4 := by
  refine BitVec.eq_of_getLsbD_eq fun i hi => ?_
  rw [getLsbD_rlc8_iterate v 4 hi, BitVec.getLsbD_append]
  interval_cases i <;> simp

theorem rlc8_iterate_four_eq_iff (v : Byte) :
    (fun x => (rlc8 x).1)^[4] v = v ↔ v.extractLsb' 4 4 = v.extractLsb' 0 4 := by
  have hv : v.extractLsb' 4 4 ++ v.extractLsb' 0 4 = v := BitVec.extractLsb'_append_extractLsb'
  rw [rlc8_iterate_four]
  constructor
  · intro h
    rw [← BitVec.extractLsb'_append_eq_right (a := v.extractLsb' 0 4) (b := v.extractLsb' 4 4), h]
  · intro h
    rw [h] at hv ⊢
    exact hv

/-- Settles O25: the primitives one by one, the rotations to the right by those to the left. -/
theorem rotateResults : Obligations.RotateResults := by
  refine ⟨fun v cin => ⟨?rlc, ?rrc, rotShift_rl v cin, rotShift_rr v cin, rotShift_sla v cin, rotShift_sra v cin,
    rotShift_srl v cin, rotShift_swap v cin⟩, fun v => ⟨rlc8_iterate_eight v, ?rrc_eight,
    rlc8_iterate_four_eq_iff v, ?rrc_four⟩⟩
  case rlc => rw [rotShift_rlc, rotateLeft_one, extractLsb'_one]
  case rrc => rw [rotShift_rrc, rotateRight_one, extractLsb'_one]
  case rrc_eight => exact (rrc8_iterate_eq_iff 8 v).2 (rlc8_iterate_eight v)
  case rrc_four => exact (rrc8_iterate_eq_iff 4 v).trans (rlc8_iterate_four_eq_iff v)

end Sys2Proof.Machine
end

section
/-! The rotates of A, and the CB rotates, shifts and SWAP of a register and of (HL) (44_rotate_shift_bit R650 to R655, R659 to
R675). -/

namespace Sys2Proof.Machine

/-- The spelling of a CB instruction (30_encoding R334). -/
theorem Spells.cb {i : Instr} {n : Byte} {c d : Nat} (he : encode i = [0xCB, n]) (hc : cbCost n = (c, d)) :
    Spells i [0xCB, n] c d :=
  ⟨he, fun cfg h => by simp only [costPair, he, h, if_true, lookupD, hc]⟩

/-! The rotates of A (R650 to R653). -/

/-- A rotate of A writes A and the flags, Z cleared whatever the result. -/
theorem rotateA_writes {s : State} {i : Instr} {op : RotOp} {res : Byte} {c : Bool} (hexec : exec i s = rotateA op s)
    (hr : rotShift op (s.reg .a) s.flags.c = (res, c)) :
    ∃ t, exec i s = .next t ∧ t.reg .a = res ∧ t.flags = ⟨false, false, false, c⟩ ∧ KeepsRegs [.a] s t ∧ OnlyRegs s t := by
  rw [hexec, rotateA, hr]
  exact ⟨_, rfl, s.setReg_setFlags_spec .a res _⟩

/-- Settles O24: each rotate of A with the result its primitive has by R656. -/
theorem rotatesOfA : Obligations.RotatesOfA := by
  refine ⟨fun s i res c hform => ?_, .primary rfl (by decide) rfl, .primary rfl (by decide) rfl, .primary rfl (by decide) rfl,
    .primary rfl (by decide) rfl⟩
  obtain ⟨rfl, rfl, rfl⟩ | ⟨rfl, rfl, rfl⟩ | ⟨rfl, rfl, rfl⟩ | ⟨rfl, rfl, rfl⟩ := hform
  · exact rotateA_writes rfl (rotShift_rlc _ _)
  · exact rotateA_writes rfl (rotShift_rrc _ _)
  · exact rotateA_writes rfl (rotShift_rl _ _)
  · exact rotateA_writes rfl (rotShift_rr _ _)

/-! The CB forms (R655, R659 to R675). -/

theorem exec_rotReg (op : RotOp) (r : Reg8) (s : State) :
    exec (rotReg op r) s =
      .next ((s.setReg r (rotResult op (s.reg r) s.flags.c).1).setFlags (rotResult op (s.reg r) s.flags.c).2) := by
  cases op <;> cases r <;> rfl

theorem exec_rotAtHL (op : RotOp) (s : State) : exec (rotAtHL op) s = s.modifyAtHL fun v => rotResult op v s.flags.c := by
  cases op <;> rfl

theorem spells_rotReg (op : RotOp) (r : Reg8) : Spells (rotReg op r) [0xCB, rotCode op <<< 3 ||| regCode r] 8 8 := by
  cases op <;> cases r <;> exact .cb rfl rfl

theorem spells_rotAtHL (op : RotOp) : Spells (rotAtHL op) [0xCB, 0x06 ||| rotCode op <<< 3] 16 16 := by
  cases op <;> exact .cb rfl rfl

/-- Settles O26: one register write and one flag write, Z from the byte written. -/
theorem rotateRegister : Obligations.RotateRegister := by
  refine fun op r s => ⟨?_, spells_rotReg op r⟩
  obtain ⟨hres, hflags, hframe⟩ :=
    s.setReg_setFlags_spec r (rotResult op (s.reg r) s.flags.c).1 (rotResult op (s.reg r) s.flags.c).2
  exact ⟨_, exec_rotReg op r s, hres, by rw [hflags, hres]; rfl, hframe⟩

/-- Settles O27: every form is a read-modify-write at (HL). -/
theorem rotateAtHl : Obligations.RotateAtHl :=
  fun op s => ⟨.of_exec (exec_rotAtHL op s) fun _ => rfl, spells_rotAtHL op⟩

end Sys2Proof.Machine
end

section
/-! BIT, RES and SET (44_rotate_shift_bit R680 to R685). -/

namespace Sys2Proof.Machine

/-! BIT (R680, R681). -/

theorem exec_bitReg (b : Fin 8) (r : Reg8) (s : State) :
    exec (bitReg b r) s = .next (s.setFlags (bitTest b.val (s.reg r) s.flags)) := by
  fin_cases b <;> cases r <;> rfl

theorem exec_bitAtHL (b : Fin 8) (s : State) :
    exec (bitAtHL b) s = s.withByteAt s.hl fun v => s.setFlags (bitTest b.val v s.flags) := by
  fin_cases b <;> rfl

theorem spells_bitReg (b : Fin 8) (r : Reg8) :
    Spells (bitReg b r) [0xCB, 0x40 ||| BitVec.ofNat 8 (8 * b.val) ||| regCode r] 8 8 := by
  fin_cases b <;> cases r <;> exact .cb rfl rfl

theorem spells_bitAtHL (b : Fin 8) : Spells (bitAtHL b) [0xCB, 0x46 ||| BitVec.ofNat 8 (8 * b.val)] 12 12 := by
  fin_cases b <;> exact .cb rfl rfl

/-- Settles O28: BIT writes the flags alone, those of the register or of the byte read. -/
theorem bitTests : Obligations.BitTest := by
  refine ⟨fun b r s => ⟨⟨_, exec_bitReg b r s, s.setFlags_spec _⟩, spells_bitReg b r⟩, fun b s => ?_⟩
  rw [exec_bitAtHL]
  exact ⟨fun v hv => ⟨_, State.withByteAt_ok hv, s.setFlags_spec _⟩, fun _ he => State.withByteAt_error he, spells_bitAtHL b⟩

/-! RES and SET (R682 to R685). -/

theorem clearBit_eq (b : Nat) (v : Byte) : clearBit b v = v &&& ~~~BitVec.twoPow 8 b := rfl

theorem insertBit_eq (b : Nat) (v : Byte) : insertBit b v = v ||| BitVec.twoPow 8 b := rfl

/-- RES clears its own bit and keeps the others. -/
theorem getLsbD_clearBit (b : Fin 8) (v : Byte) {k : Nat} (hk : k < 8) :
    (clearBit b.val v).getLsbD k = if k = b.val then false else v.getLsbD k := by
  rw [clearBit_eq, BitVec.getLsbD_and, BitVec.getLsbD_not, BitVec.getLsbD_twoPow]
  split <;> simp [*, eq_comm]

/-- SET sets its own bit and keeps the others. -/
theorem getLsbD_insertBit (b : Fin 8) (v : Byte) (k : Nat) :
    (insertBit b.val v).getLsbD k = if k = b.val then true else v.getLsbD k := by
  rw [insertBit_eq, BitVec.getLsbD_or, BitVec.getLsbD_twoPow]
  split <;> simp [*, eq_comm]

theorem exec_resReg (b : Fin 8) (r : Reg8) (s : State) :
    exec (resReg b r) s = .next (s.setReg r (clearBit b.val (s.reg r))) := by
  fin_cases b <;> cases r <;> rfl

theorem exec_setReg (b : Fin 8) (r : Reg8) (s : State) :
    exec (setReg b r) s = .next (s.setReg r (insertBit b.val (s.reg r))) := by
  fin_cases b <;> cases r <;> rfl

theorem exec_resAtHL (b : Fin 8) (s : State) : exec (resAtHL b) s = s.replaceAtHL (clearBit b.val) := by
  fin_cases b <;> rfl

theorem exec_setAtHL (b : Fin 8) (s : State) : exec (setAtHL b) s = s.replaceAtHL (insertBit b.val) := by
  fin_cases b <;> rfl

theorem spells_resReg (b : Fin 8) (r : Reg8) :
    Spells (resReg b r) [0xCB, 0x80 ||| BitVec.ofNat 8 (8 * b.val) ||| regCode r] 8 8 := by
  fin_cases b <;> cases r <;> exact .cb rfl rfl

theorem spells_setReg (b : Fin 8) (r : Reg8) :
    Spells (setReg b r) [0xCB, 0xC0 ||| BitVec.ofNat 8 (8 * b.val) ||| regCode r] 8 8 := by
  fin_cases b <;> cases r <;> exact .cb rfl rfl

theorem spells_resAtHL (b : Fin 8) : Spells (resAtHL b) [0xCB, 0x86 ||| BitVec.ofNat 8 (8 * b.val)] 16 16 := by
  fin_cases b <;> exact .cb rfl rfl

theorem spells_setAtHL (b : Fin 8) : Spells (setAtHL b) [0xCB, 0xC6 ||| BitVec.ofNat 8 (8 * b.val)] 16 16 := by
  fin_cases b <;> exact .cb rfl rfl

section Replace
variable {s : State} {f : Byte → Byte}

/-- With a byte to read at (HL), the form ends as its bus write does. -/
theorem State.replaceAtHL_ok {v : Byte} (hv : s.memRead s.hl = .ok v) :
    s.replaceAtHL f = (s.memWrite s.hl (f v)).result := congrArg Run.result (State.readThen_ok hv)

theorem State.replaceAtHL_error {e : StepError} (he : s.memRead s.hl = .error e) : s.replaceAtHL f = .next (s.raise e) :=
  congrArg Run.result (State.readThen_error he)

/-- An instruction that replaces the byte at (HL) meets the contract with the flags as they were. -/
theorem ModifiesAtHL.of_replace {i : Instr} (h : exec i s = s.replaceAtHL f) : ModifiesAtHL i s f fun _ => s.flags := by
  have hends : ∀ {v r}, s.memRead s.hl = .ok v → s.memWrite s.hl (f v) = r → exec i s = r.result := by
    rintro v _ hv rfl
    exact h.trans (State.replaceAtHL_ok hv)
  have hkeeps : ∀ {v t}, s.memWrite s.hl v = .ok t → t.flags = s.flags ∧ KeepsRegs [] s t := fun ht =>
    have hregs := (State.memWrite_ok_keeps ht).regs
    ⟨State.flags_of_regs hregs, .of_regs hregs⟩
  refine ⟨fun v t hv ht => ?completes, fun e he => h.trans (State.replaceAtHL_error he), fun v e t hv ht => hends hv ht,
    fun v hm ha hv => ?ram⟩
  case completes =>
    obtain ⟨hflags, hregs⟩ := hkeeps ht
    exact ⟨t, hends hv ht, hflags, hregs, rfl⟩
  case ram =>
    obtain ⟨t, ht, hstored, honly⟩ := ha.memWrite hm (f v)
    obtain ⟨hflags, hregs⟩ := hkeeps ht
    exact ⟨t, hends hv ht, hflags, hregs, hstored, honly⟩

end Replace

/-- Settles O29: a register is replaced by one register write, (HL) by a read and a write. -/
theorem bitWrites : Obligations.BitWrites := by
  refine ⟨fun b r s => ⟨?res, ?set, spells_resReg b r, spells_setReg b r⟩, fun b s => ⟨.of_replace (exec_resAtHL b s),
    .of_replace (exec_setAtHL b s), spells_resAtHL b, spells_setAtHL b⟩⟩
  case res =>
    obtain ⟨hreg, hrest⟩ := s.setReg_spec r (clearBit b.val (s.reg r))
    exact ⟨_, exec_resReg b r s, fun k hk => by rw [hreg, getLsbD_clearBit b _ hk], hrest⟩
  case set =>
    obtain ⟨hreg, hrest⟩ := s.setReg_spec r (insertBit b.val (s.reg r))
    exact ⟨_, exec_setReg b r s, fun k _ => by rw [hreg, getLsbD_insertBit b], hrest⟩

end Sys2Proof.Machine
end

section
/-! Jumps, calls, restarts and returns (45_control R700 to R711): the conditional forms by the condition on the flags. -/

namespace Sys2Proof.Machine

/-! The condition (R700). -/

theorem State.cond_iff (s : State) (cc : Cond) : s.cond cc = true ↔ condHolds s.flags cc := by
  cases cc with
  | nz | nc => exact Iff.of_eq (Bool.not_eq_true' _)
  | z | c => exact Iff.rfl

section Branch
variable {s : State} {cc : Cond}

theorem jumpIf_taken (h : condHolds s.flags cc) (a : Word) : jumpIf cc a s = .next (s.setPc a) :=
  congrArg done (if_pos ((s.cond_iff cc).2 h))

theorem jumpRelIf_taken (h : condHolds s.flags cc) (e : Byte) :
    jumpRelIf cc e s = .next (s.setPc (s.regs.pc + sext16 e)) :=
  congrArg done (if_pos ((s.cond_iff cc).2 h))

theorem callIf_taken (h : condHolds s.flags cc) (a : Word) : callIf cc a s = (s.callTo a).result :=
  if_pos ((s.cond_iff cc).2 h)

theorem returnIf_taken (h : condHolds s.flags cc) : returnIf cc s = s.popPc.result := if_pos ((s.cond_iff cc).2 h)

theorem jumpIf_notTaken (h : ¬condHolds s.flags cc) (a : Word) : jumpIf cc a s = .next s :=
  congrArg done (if_neg (h ∘ (s.cond_iff cc).1))

theorem jumpRelIf_notTaken (h : ¬condHolds s.flags cc) (e : Byte) : jumpRelIf cc e s = .next s :=
  congrArg done (if_neg (h ∘ (s.cond_iff cc).1))

theorem callIf_notTaken (h : ¬condHolds s.flags cc) (a : Word) : callIf cc a s = .next s :=
  if_neg (h ∘ (s.cond_iff cc).1)

theorem returnIf_notTaken (h : ¬condHolds s.flags cc) : returnIf cc s = .next s := if_neg (h ∘ (s.cond_iff cc).1)

end Branch

/-! JP and JR (R701 to R705). -/

theorem exec_jpCond (cc : Cond) (a : Word) (s : State) : exec (jpCond cc a) s = jumpIf cc a s := by cases cc <;> rfl

theorem exec_jrCond (cc : Cond) (e : Byte) (s : State) : exec (jrCond cc e) s = jumpRelIf cc e s := by cases cc <;> rfl

theorem spells_jpCond (cc : Cond) (a : Word) :
    Spells (jpCond cc a) [0xC2 ||| condCode cc <<< 3, a.extractLsb' 0 8, a.extractLsb' 8 8] 16 12 := by
  cases cc <;> exact .primary rfl (by decide) rfl

theorem spells_jrCond (cc : Cond) (e : Byte) : Spells (jrCond cc e) [0x20 ||| condCode cc <<< 3, e] 12 8 := by
  cases cc <;> exact .primary rfl (by decide) rfl

/-- Settles O30: a jump is one write of PC, under a condition where it has one. -/
theorem jumps : Obligations.Jumps := fun s =>
  ⟨fun _ => rfl, rfl, fun _ => rfl,
    fun cc a h => (exec_jpCond cc a s).trans (jumpIf_taken h a),
    fun cc a h => (exec_jpCond cc a s).trans (jumpIf_notTaken h a),
    fun cc e h => (exec_jrCond cc e s).trans (jumpRelIf_taken h e),
    fun cc e h => (exec_jrCond cc e s).trans (jumpRelIf_notTaken h e),
    fun _ => .primary rfl (by decide) rfl, .primary rfl (by decide) rfl, fun _ => .primary rfl (by decide) rfl,
    spells_jpCond, spells_jrCond⟩

/-! CALL and RST (R706, R707, R711). -/

theorem exec_callA16 (a : Word) (s : State) : exec (.callA16 a) s = (s.callTo a).result := rfl

theorem exec_callCond (cc : Cond) (a : Word) (s : State) : exec (callCond cc a) s = callIf cc a s := by cases cc <;> rfl

theorem exec_rstTo (k : Fin 8) (s : State) : exec (rstTo k) s = (s.callTo (BitVec.ofNat 16 (8 * k.val))).result := by
  fin_cases k <;> rfl

theorem spells_callCond (cc : Cond) (a : Word) :
    Spells (callCond cc a) [0xC4 ||| condCode cc <<< 3, a.extractLsb' 0 8, a.extractLsb' 8 8] 24 12 := by
  cases cc <;> exact .primary rfl (by decide) rfl

theorem spells_rstTo (k : Fin 8) : Spells (rstTo k) [0xC7 ||| BitVec.ofNat 8 (8 * k.val)] 16 16 := by
  fin_cases k <;> exact .primary rfl (by decide) rfl

/-- Settles O31: a call, taken, and a restart are a push of PC followed by a jump. -/
theorem calls : Obligations.Calls := fun s =>
  ⟨fun a => .of_exec (exec_callA16 a s),
    fun cc a h => .of_exec ((exec_callCond cc a s).trans (callIf_taken h a)),
    fun cc a h => (exec_callCond cc a s).trans (callIf_notTaken h a),
    fun k => .of_exec (exec_rstTo k s),
    fun _ => .primary rfl (by decide) rfl, spells_callCond, spells_rstTo⟩

/-! RET and RETI (R708 to R710). -/

theorem exec_ret (s : State) : exec .ret s = s.popPc.result := rfl

theorem exec_retCond (cc : Cond) (s : State) : exec (retCond cc) s = returnIf cc s := by cases cc <;> rfl

theorem exec_reti (s : State) : exec .reti s = s.returnInterrupt.result := rfl

theorem spells_retCond (cc : Cond) : Spells (retCond cc) [0xC0 ||| condCode cc <<< 3] 20 8 := by
  cases cc <;> exact .primary rfl (by decide) rfl

/-- An instruction that pops PC, as RET and a RET cc taken do, leaves SP two up and PC the popped word. -/
theorem PopsThen.of_popPc {i : Instr} {s : State} (h : exec i s = s.popPc.result) :
    PopsThen i s fun w t => t = { s with regs := { s.regs with sp := s.regs.sp + 2, pc := w } } :=
  .of_exec h (fun _ _ => rfl) fun _ => rfl

/-- Settles O32: a return, taken, is a pop into PC; RETI writes IME and EI_PENDING after it. -/
theorem returns : Obligations.Returns := fun s =>
  ⟨.of_popPc (exec_ret s),
    fun cc h => .of_popPc ((exec_retCond cc s).trans (returnIf_taken h)),
    fun cc h => (exec_retCond cc s).trans (returnIf_notTaken h),
    .of_exec (exec_reti s) (fun _ _ => rfl) fun _ => rfl,
    .primary rfl (by decide) rfl, .primary rfl (by decide) rfl, spells_retCond⟩

end Sys2Proof.Machine
end

section
/-! A step that reaches its instruction (60_exceptions R810, R811, R823): nothing to service, the bytes at PC, and how the
instruction's own answer ends the step. -/

namespace Sys2Proof.Machine

/-! Nothing to service (R823, R824). -/

/-- A kind is pending when its bit of the masked byte is set. -/
theorem State.isPending_iff (s : State) (k : IntKind) : s.IsPending k ↔ bitAt s.pending k.bit = true := by
  cases k <;> simp [State.IsPending, State.pending, bitAt, IntKind.bit]

theorem lowestKind_eq_none_iff (p : Byte) : lowestKind p = none ↔ ∀ k : IntKind, bitAt p k.bit = false := by
  have h : lowestKind p = none ↔ bitAt p 0 = false ∧ bitAt p 1 = false ∧ bitAt p 2 = false ∧ bitAt p 4 = false := by
    simp [lowestKind, ite_eq_iff]
  rw [h]
  constructor
  · rintro ⟨h0, h1, h2, h4⟩ (_ | _ | _ | _)
    exacts [h0, h1, h2, h4]
  · exact fun hk => ⟨hk .vblank, hk .videoStatus, hk .timer, hk .controller⟩

theorem State.serviceable_eq_none_iff (s : State) : s.serviceable = none ↔ s.ime = false ∨ ∀ k, ¬s.IsPending k := by
  simp only [State.isPending_iff, Bool.not_eq_true, ← lowestKind_eq_none_iff, State.serviceable]
  cases s.ime <;> simp

/-! The bytes at PC. -/

theorem State.BytesAt.nil (s : State) (a : Word) : s.BytesAt a [] := fun _ h => absurd h (Nat.not_lt_zero _)

theorem State.BytesAt.cons {s : State} {a : Word} {b : Byte} {bs : List Byte} (hb : s.memRead a = .ok b)
    (h : s.BytesAt (a + 1) bs) : s.BytesAt a (b :: bs) := by
  intro k hk
  cases k with
  | zero => rwa [pc_add_zero]
  | succ k =>
    rw [← pc_add_succ]
    exact h k (Nat.lt_of_succ_lt_succ hk)

/-- With nothing before it the step is the instruction that the bytes at PC decode to, run with PC past them. -/
theorem State.Runs.step_eq {s : State} {i : Instr} {bs : List Byte} (h : s.Runs) (hd : decode bs = .ok (i, []))
    (hb : s.BytesAt s.regs.pc bs) :
    step s = (s.setPc (s.regs.pc + BitVec.ofNat 16 bs.length)).execute s.eiPending 0 i := by
  have hbreak : s.atBreakpoint = false := by simp [State.atBreakpoint, h.noBreakpoint]
  rw [step_eq_executeNext h.noFault hbreak h.notHalted (s.serviceable_eq_none_iff.2 h.noInterrupt), State.executeNext_eq 0 hd hb]

/-! How the instruction's answer ends the step. -/

section Execute
variable {s u : State} {i : Instr}

/-- An error the instruction raises ends the step at once (R806). -/
theorem State.execute_raises (h : exec i s = .next u) (hf : u.fault ≠ none) (ei : Bool) (extra : Nat) :
    s.execute ei extra i = .next u := by
  simp only [State.execute, h, if_pos (Option.isSome_iff_ne_none.2 hf)]

/-- An instruction that completes is charged, after the pending EI is settled (R810). -/
theorem State.execute_completes (h : exec i s = .next u) (hf : u.fault = none) (ei : Bool) (extra : Nat) :
    s.execute ei extra i = .next ((u.settleEi ei).charge (extra + s.cost i) .ok) := by
  simp only [State.execute, h, hf, Option.isSome_none, Bool.false_eq_true, if_false]

end Execute

/-- Where taken and not taken cost the same, the state's flags have no part in the cost. -/
theorem Spells.cost_eq {i : Instr} {bs : List Byte} {c : Nat} (h : Spells i bs c c) {s : State} (hc : s.cfg.cycleCost = []) :
    s.cost i = c := by
  rw [State.cost, h.cost _ hc, ite_self]

/-- Settling a pending EI writes IME and EI_PENDING only (R1020). -/
theorem State.settleEi_frame (s : State) (ei : Bool) :
    ∃ ime pending, s.settleEi ei = { s with ime := ime, eiPending := pending } := by
  unfold State.settleEi
  split
  · exact ⟨true, false, rfl⟩
  · exact ⟨s.ime, s.eiPending, rfl⟩

/-- Charging leaves the registers and the speed bits, and adds the cost, or half of it in double speed (R811). -/
theorem State.charge_spec (s : State) (c : Nat) (r : StepResult) :
    (s.charge c r).regs = s.regs ∧ (s.charge c r).doubleSpeed = s.doubleSpeed ∧ (s.charge c r).speedPrep = s.speedPrep ∧
      (s.charge c r).cycles = s.cycles + if s.doubleSpeed then c / 2 else c := by
  let n := s.cycles + if s.doubleSpeed then c / 2 else c
  obtain ⟨_, _, _, _, _, _, _, _, _, hp⟩ := State.pump_frame { s with cycles := n, stepResult := r } n
  rw [State.charge, hp]
  exact ⟨rfl, rfl, rfl, rfl⟩

/-- The step at an instruction of one cost that completes in `u`: the registers and speed bits of `u`, and the cost as the
speed of `u` has it (R811). -/
theorem State.Runs.step_charges {s u : State} {i : Instr} {bs : List Byte} {c : Nat} (h : s.Runs) (hi : Spells i bs c c)
    (hw : i.wellFormed = true) (hc : s.cfg.cycleCost = []) (hb : s.BytesAt s.regs.pc bs)
    (hx : exec i (s.setPc (s.regs.pc + BitVec.ofNat 16 bs.length)) = .next u) (hf : u.fault = none) :
    ∃ t, step s = .next t ∧ t.regs = u.regs ∧ t.doubleSpeed = u.doubleSpeed ∧ t.speedPrep = u.speedPrep ∧
      t.cycles = u.cycles + if u.doubleSpeed then c / 2 else c := by
  have hd : decode bs = .ok (i, []) := by
    have hd := decode_encode hw []
    rwa [List.append_nil, hi.bytes] at hd
  obtain ⟨ime, pending, hs⟩ := u.settleEi_frame s.eiPending
  refine ⟨_, ?_, State.charge_spec { u with ime := ime, eiPending := pending } c .ok⟩
  have hcost : (s.setPc (s.regs.pc + BitVec.ofNat 16 bs.length)).cost i = c := hi.cost_eq hc
  rw [h.step_eq hd hb, State.execute_completes hx hf, hcost, hs, Nat.zero_add]

end Sys2Proof.Machine
end

section
/-! The system instructions and INVALID (46_system R750 to R765). -/

namespace Sys2Proof.Machine

/-! NOP, HALT, DI and EI (R750 to R755). -/

theorem exec_ei_delayed {s : State} (h : s.cfg.eiDelay = true) : exec .ei s = .next { s with eiPending := true } :=
  congrArg done (if_pos h)

theorem exec_ei_immediate {s : State} (h : s.cfg.eiDelay = false) : exec .ei s = .next { s with ime := true } :=
  congrArg done (if_neg (Bool.eq_false_iff.1 h))

/-- Settles O33: each writes its bits and nothing else, EI by `EI_DELAY`. -/
theorem systemInstructions : Obligations.SystemInstructions :=
  ⟨fun _ => ⟨rfl, rfl, rfl, exec_ei_delayed, exec_ei_immediate⟩,
    .primary rfl (by decide) rfl, .primary rfl (by decide) rfl, .primary rfl (by decide) rfl, .primary rfl (by decide) rfl⟩

/-! STOP (R760, R804). -/

theorem exec_stop_prepared {s : State} (h : s.colorMode = true ∧ s.speedPrep = true) (u : Byte) :
    exec (.stop u) s = .next { s with doubleSpeed := !s.doubleSpeed, speedPrep := false } :=
  if_pos (Bool.and_eq_true_iff.2 h)

theorem exec_stop_unprepared {s : State} (h : ¬(s.colorMode = true ∧ s.speedPrep = true)) (u : Byte) :
    exec (.stop u) s = .next (s.raise (.stopWithoutSpeedPrep (s.regs.pc - 2))) :=
  if_neg (h ∘ Bool.and_eq_true_iff.1)

theorem spells_stop (u : Byte) : Spells (.stop u) [0x10, u] 4 4 := .primary rfl (by decide) rfl

/-- The step at a prepared STOP: its cost is halved by DOUBLE_SPEED as the switch leaves it. -/
theorem step_stop_prepared {s : State} {u : Byte} (hr : s.Runs) (hc : s.cfg.cycleCost = [])
    (hp : s.colorMode = true ∧ s.speedPrep = true) (hb : s.BytesAt s.regs.pc [0x10, u]) :
    ∃ t, step s = .next t ∧ t.cycles = s.cycles + (if s.doubleSpeed then 4 else 2) ∧ t.doubleSpeed = !s.doubleSpeed ∧
      t.speedPrep = false ∧ t.regs = { s.regs with pc := s.regs.pc + 2 } := by
  obtain ⟨t, hs, hregs, hspeed, hprep, hcycles⟩ :=
    hr.step_charges (spells_stop u) rfl hc hb (exec_stop_prepared (s := s.setPc (s.regs.pc + 2)) hp u) hr.noFault
  refine ⟨t, hs, ?_, hspeed, hprep, hregs⟩
  rw [hcycles]
  cases hd : s.doubleSpeed <;> simp [hd]

/-- Settles O34: the switch and the raise are the two branches of STOP, the step of the switch is `step_stop_prepared`. -/
theorem stopSwitchesSpeed : Obligations.StopSwitchesSpeed := fun u _ =>
  ⟨fun hr hc hm hp ho hu => step_stop_prepared hr hc ⟨hm, hp⟩ (.cons ho (.cons hu (.nil _ _))),
    fun h => exec_stop_prepared h u, fun h => exec_stop_unprepared h u, spells_stop u⟩

/-! INVALID (R765, R802). -/

theorem exec_invalid (op : Byte) (s : State) : exec (.invalid op) s = .next (s.raise (.invalidInstruction op)) := rfl

/-- Settles O35: INVALID raises, and the raise ends the step. -/
theorem invalidOpcode : Obligations.InvalidOpcode := by
  refine ⟨exec_invalid, fun op s hw hr hb => ?_⟩
  rw [hr.step_eq (decode_encode hw []) (.cons hb (.nil _ _))]
  exact State.execute_raises (exec_invalid op _) (Option.some_ne_none _) _ _

end Sys2Proof.Machine
end

section
/-! What a pump can change (60_exceptions R812, R821). -/

namespace Sys2Proof.Machine

/-- Settles O57: a pump adds requests by an `or`, and what else it can write is `State.pump_frame`. -/
theorem pumpFrame : Obligations.PumpFrame := by
  intro s t u
  obtain ⟨g, front, back, m, x, n, a, d, ⟨_, _, _, _, _, _, _, _, _, _, _, _, _, _, ha⟩, hp⟩ := s.pump_frame t
  have hu : u = _ := hp
  refine ⟨fun k hk => ?_, ?_, ?_⟩
  · rw [hu, BitVec.getLsbD_or, hk, Bool.true_or]
  · rw [hu]
  · rw [hu, ha]

end Sys2Proof.Machine
end

section
/-! The kinds and their priority (60_exceptions R820, R823, R824, R827): which kind a state services. -/

namespace Sys2Proof.Machine

/-- The masked byte is 0 exactly when no kind is pending: bit 3 takes no part (R823, R827). -/
theorem State.pending_eq_zero_iff (s : State) : s.pending = 0 ↔ ∀ k, ¬s.IsPending k := by
  have h : ∀ p : Byte, p &&& 0x17 = 0 ↔ lowestKind (p &&& 0x17) = none := by decide +kernel
  simp only [State.isPending_iff, Bool.not_eq_true, ← lowestKind_eq_none_iff]
  exact h _

/-- The highest priority is the least bit (R824). -/
theorem lowestKind_eq_some_iff (p : Byte) (k : IntKind) :
    lowestKind p = some k ↔ bitAt p k.bit = true ∧ ∀ j : IntKind, j.bit < k.bit → bitAt p j.bit = false := by
  have hall : ∀ P : IntKind → Prop, (∀ j, P j) ↔ P .vblank ∧ P .videoStatus ∧ P .timer ∧ P .controller := fun P =>
    ⟨fun h => ⟨h _, h _, h _, h _⟩, fun ⟨h0, h1, h2, h4⟩ j => by cases j <;> assumption⟩
  rw [hall]
  cases k <;> simp [lowestKind, ite_eq_iff, IntKind.bit, and_comm, and_assoc]

theorem State.serviceable_eq_some_iff (s : State) (k : IntKind) :
    s.serviceable = some k ↔ s.ime = true ∧ s.IsPending k ∧ ∀ j : IntKind, j.bit < k.bit → ¬s.IsPending j := by
  simp only [State.isPending_iff, Bool.not_eq_true, ← lowestKind_eq_some_iff, State.serviceable]
  cases s.ime <;> simp

/-- A serviced kind is pending, so the masked byte is not 0. -/
theorem State.pending_ne_zero {s : State} {k : IntKind} (h : s.IsPending k) : s.pending ≠ 0 :=
  fun hz => s.pending_eq_zero_iff.1 hz k h

/-- Settles O39: `serviceable` is `lowestKind` of the masked byte, whose bits are the pending kinds. -/
theorem interruptPriority : Obligations.InterruptPriority := fun s =>
  ⟨s.serviceable_eq_some_iff, s.serviceable_eq_none_iff, s.pending_eq_zero_iff⟩

end Sys2Proof.Machine
end

section
/-! The phases of a step (60_exceptions R810): which one a state takes, and how the instruction's answer ends the step (R811). -/

namespace Sys2Proof.Machine

section Phases
variable {s : State}

/-- A faulted state has no step (R806). -/
theorem step_of_fault {e : StepError} (h : s.fault = some e) : step s = .fault (.faulted e) := by
  simp only [step, State.runCycle, h]

theorem step_of_breakpoint (hf : s.fault = none) (hb : s.atBreakpoint = true) : step s = .next s.takeBreakpoint := by
  simp only [step, State.runCycle, hf, hb, if_true]

theorem State.atBreakpoint_eq_false (h : s.halted = true ∨ s.regs.pc ∉ s.breakpoints) : s.atBreakpoint = false := by
  obtain h | h := h <;> simp [State.atBreakpoint, h]

theorem step_of_fastForward (hf : s.fault = none) (hh : s.halted = true) (hp : s.pending = 0) :
    step s = .next s.fastForward := by
  simp [step, State.runCycle, hf, State.atBreakpoint_eq_false (.inl hh), hh, hp]

/-- Neither stopped nor passing time, a step serves an interrupt or the next instruction, not halted (R826). -/
theorem step_of_service (hf : s.fault = none) (hb : s.halted = true ∨ s.regs.pc ∉ s.breakpoints)
    (hp : s.halted = false ∨ s.pending ≠ 0) : step s = State.serviceAndExecute { s with halted := false } := by
  have hn : (s.halted && decide (s.pending = 0)) = false := by
    obtain hp | hp := hp
    · rw [hp, Bool.false_and]
    · rw [decide_eq_false hp, Bool.and_false]
  simp only [step, State.runCycle, hf, State.atBreakpoint_eq_false hb, hn, Bool.false_eq_true, if_false]

theorem State.Runs.step_eq_executeNext (h : s.Runs) : step s = s.executeNext 0 :=
  Machine.step_eq_executeNext h.noFault (State.atBreakpoint_eq_false (.inr h.noBreakpoint)) h.notHalted
    (s.serviceable_eq_none_iff.2 h.noInterrupt)

end Phases

/-- The settled EI leaves what the cost goes by. -/
theorem State.charge_settleEi (s : State) (ei : Bool) (c : Nat) (r : StepResult) :
    (s.settleEi ei).charge c r =
      let n := s.cycles + if s.doubleSpeed then c / 2 else c
      { s.settleEi ei with cycles := n, stepResult := r }.pump n := by
  obtain ⟨ime, pending, h⟩ := s.settleEi_frame ei
  rw [h]
  rfl

theorem State.settleEi_eq_ite (s : State) (ei : Bool) :
    s.settleEi ei = if ei ∧ s.eiPending then { s with ime := true, eiPending := false } else s := by
  simp only [State.settleEi, Bool.and_eq_true]

/-- Settles O36: the step is `execute` of the decoded instruction, whose two ends are the two clauses. -/
theorem stepRunsDecoded : Obligations.StepRunsDecoded := by
  intro s i bs hr hd hb u hu
  have hx : exec i (s.setPc (s.regs.pc + BitVec.ofNat 16 bs.length)) = .next u := hu
  rw [hr.step_eq hd hb]
  refine ⟨fun hf => State.execute_raises hx hf _ _, fun hf => ?_⟩
  rw [State.execute_completes hx hf, State.charge_settleEi, State.settleEi_eq_ite, Nat.zero_add]
  rfl

end Sys2Proof.Machine
end

section
/-! Errors (60_exceptions R806, 10_state R114, 00_scope R18): how a step that raises ends, and where a fetch that raises stops. -/

namespace Sys2Proof.Machine

/-- A pump raises nothing. -/
theorem State.pump_fault (s : State) (t : Nat) : (s.pump t).fault = s.fault := by
  obtain ⟨_, _, _, _, _, _, _, _, _, hp⟩ := s.pump_frame t
  rw [hp]

theorem State.fastForward_fault (s : State) : s.fastForward.fault = s.fault := State.pump_fault _ _

theorem State.charge_fault (s : State) (c : Nat) (r : StepResult) : (s.charge c r).fault = s.fault := State.pump_fault _ _

/-- A state without FAULT has a step. -/
theorem step_eq_next {s : State} (hf : s.fault = none) : ∃ t, step s = .next t := by
  rcases step_cases s with ⟨e, he, -⟩ | ⟨-, hs | ⟨-, hs⟩ | ⟨t, -, ⟨e, hs⟩ | ⟨c, r, -, hs⟩⟩⟩
  · rw [hf] at he
    contradiction
  all_goals exact ⟨_, hs⟩

/-- A step ends in a FAULT only by raising it where it has moved, no cycle having passed (R806). -/
theorem step_raises {s t : State} {e : StepError} (hs : step s = .next t) (he : t.fault = some e) :
    ∃ u, Moves s u ∧ t = u.raise e := by
  rcases step_cases s with ⟨e', -, h⟩ | ⟨hf, h | ⟨-, h⟩ | ⟨u, hm, ⟨e', h⟩ | ⟨c, r, -, h⟩⟩⟩ <;> rw [hs] at h <;> cases h
  · exact absurd he (by simp [State.takeBreakpoint, hf])
  · exact absurd he (by simp [State.fastForward_fault, hf])
  · cases he
    exact ⟨u, hm, rfl⟩
  · exact absurd he (by simp [State.charge_fault, hm.fault, hf])

section Fetch
variable {s : State} {n : Nat} {e : StepError}

/-- A fetch of `m` bytes stops at the first that raises, PC past those before it (R18). -/
theorem State.fetchBytes_err {m : Nat} (hn : n < m) (hb : ∀ k, k < n → ∃ b, s.memRead (s.regs.pc + BitVec.ofNat 16 k) = .ok b)
    (he : s.memRead (s.regs.pc + BitVec.ofNat 16 n) = .error e) :
    s.fetchBytes m = .err e (s.setPc (s.regs.pc + BitVec.ofNat 16 n)) := by
  induction n generalizing s m with
  | zero =>
    obtain ⟨m, rfl⟩ := Nat.exists_eq_add_one.2 hn
    rw [pc_add_zero] at he ⊢
    simp only [State.fetchBytes, he]
    rfl
  | succ n ih =>
    obtain ⟨m, rfl⟩ := Nat.exists_eq_add_one.2 (Nat.zero_lt_of_lt hn)
    obtain ⟨b, h0⟩ := hb 0 n.succ_pos
    rw [pc_add_zero] at h0
    rw [← pc_add_succ] at he
    have hrest : (s.setPc (s.regs.pc + 1)).fetchBytes m = .err e (s.setPc (s.regs.pc + 1 + BitVec.ofNat 16 n)) := by
      refine ih (s := s.setPc (s.regs.pc + 1)) (Nat.lt_of_succ_lt_succ hn) (fun k hk => ?_) he
      rw [State.setPc_pc, pc_add_succ]
      exact hb (k + 1) (Nat.succ_lt_succ hk)
    simp only [State.fetchBytes, h0, hrest, pc_add_succ]

/-- The fetch of an instruction stops at the first of its bytes that raises, PC past those before it (R18, R420). -/
theorem State.fetchInstr_err (hb : ∀ k, k < n → ∃ b, s.memRead (s.regs.pc + BitVec.ofNat 16 k) = .ok b)
    (hn : n = 0 ∨ ∃ o, s.memRead s.regs.pc = .ok o ∧ n < instrLength o)
    (he : s.memRead (s.regs.pc + BitVec.ofNat 16 n) = .error e) :
    s.fetchInstr = .err e (s.setPc (s.regs.pc + BitVec.ofNat 16 n)) := by
  cases n with
  | zero =>
    rw [pc_add_zero] at he ⊢
    simp only [State.fetchInstr, he]
    rfl
  | succ n =>
    obtain ⟨o, ho, hlen⟩ := hn.resolve_left n.succ_ne_zero
    rw [← pc_add_succ] at he ⊢
    have hrest : (s.setPc (s.regs.pc + 1)).fetchBytes (instrLength o - 1) =
        .err e (s.setPc (s.regs.pc + 1 + BitVec.ofNat 16 n)) := by
      refine State.fetchBytes_err (s := s.setPc (s.regs.pc + 1)) (Nat.lt_sub_of_add_lt hlen) (fun k hk => ?_) he
      rw [State.setPc_pc, pc_add_succ]
      exact hb (k + 1) (Nat.succ_lt_succ hk)
    simp only [State.fetchInstr, ho, hrest]

end Fetch

/-- Settles O37: what a step can do is `step_cases`, and a fetch that raises is `State.fetchInstr_err`. -/
theorem errorsEndTheMachine : Obligations.ErrorsEndTheMachine := by
  refine ⟨fun s e => step_of_fault, fun s t e hs he => ?raises, fun s => step_eq_next, fun s n e hr hb hn he => ?fetch⟩
  case raises =>
    obtain ⟨u, hm, rfl⟩ := step_raises hs he
    exact ⟨hm.cycles, hm.lastPump, rfl, rfl⟩
  case fetch =>
    rw [hr.step_eq_executeNext, State.executeNext, State.fetchInstr_err hb hn he]
    rfl

end Sys2Proof.Machine
end

section
/-! Entering an interrupt (60_exceptions R820, R825, R829). -/

namespace Sys2Proof.Machine

/-! A write that is not to IF leaves the requests. -/

theorem dmaCopy_ifr (src dst : Nat → Word) (n i : Nat) (s : State) : (dmaCopy src dst n i s).state.ifr = s.ifr := by
  have hstore : ∀ (s : State) a b, (s.dmaStore a b).state.ifr = s.ifr := fun s a b => by
    unfold State.dmaStore
    split
    · rfl
    · exact s.setMem_ifr _ _
  induction n generalizing i s with
  | zero => rfl
  | succ n ih =>
    unfold dmaCopy
    split
    · rfl
    · rename_i b _
      have hs := hstore s (dst i) b
      split <;> rename_i h <;> rw [h] at hs
      · exact hs
      · exact (ih _ _).trans hs

theorem State.ioWrite_ifr (s : State) {r : IoReg} (v : Byte) (h : r ≠ .ifr) : (s.ioWrite r v).state.ifr = s.ifr := by
  cases r
  case ifr => contradiction
  case dma | hdma5 => exact dmaCopy_ifr _ _ _ _ _
  all_goals rfl

theorem State.memWrite_ifr {s : State} {a : Word} (v : Byte) (h : s.target a ≠ .io .ifr) :
    (s.memWrite a v).state.ifr = s.ifr := by
  have hun : (s.unmappedWrite a).state.ifr = s.ifr := by
    unfold State.unmappedWrite
    split <;> rfl
  unfold State.memWrite
  split
  · rfl
  · split
    case h_1 => exact hun
    case h_2 | h_3 | h_7 => rfl
    case h_4 => exact s.setMem_ifr _ _
    case h_5 =>
      split
      · rfl
      · exact hun
    case h_6 r hr => exact State.ioWrite_ifr _ v fun hi => h (hi ▸ hr)

/-- A write that raises leaves the requests, wherever it goes: a write of IF does not raise but at a watchpoint. -/
theorem State.ifr_of_memWrite_err {s t : State} {a : Word} {v : Byte} {e : StepError} (h : s.memWrite a v = .err e t) :
    t.ifr = s.ifr := by
  by_cases ht : s.target a = .io .ifr
  · cases hw : s.watchHit a with
    | none => cases (State.memWrite_io v hw ht).symm.trans h
    | some w =>
      cases (State.memWrite_watched v hw).symm.trans h
      rfl
  · have hk := State.memWrite_ifr v ht
    rwa [h] at hk

/-! A push that raises. -/

/-- A push raises at its first write, SP one down, or at its second, SP two down (R19). -/
theorem State.push16_raises {s t : State} {w : Word} {e : StepError} (h : s.push16 w = .err e t) :
    (s.setSp (s.regs.sp - 1)).memWrite (s.regs.sp - 1) (hiByte w) = .err e t ∨
    ∃ u, (s.setSp (s.regs.sp - 1)).memWrite (s.regs.sp - 1) (hiByte w) = .ok u ∧
      (u.setSp (s.regs.sp - 2)).memWrite (s.regs.sp - 2) (loByte w) = .err e t := by
  cases h1 : (s.setSp (s.regs.sp - 1)).memWrite (s.regs.sp - 1) (hiByte w) with
  | err e' t' => exact .inl ((State.push16_err h1).symm.trans h)
  | ok u => exact .inr ⟨u, rfl, (State.push16_ok h1).symm.trans h⟩

/-- What a push that raises leaves: IME, PC, and the requests unless the first byte went to IF. -/
theorem State.push16_err_keeps {s t : State} {w : Word} {e : StepError} (h : s.push16 w = .err e t) :
    t.ime = s.ime ∧ t.regs.pc = s.regs.pc ∧ (t.regs.sp = s.regs.sp - 1 ∨ t.regs.sp = s.regs.sp - 2) ∧
      (s.target (s.regs.sp - 1) ≠ .io .ifr → t.ifr = s.ifr) := by
  obtain h1 | ⟨u, h1, h2⟩ := State.push16_raises h
  · have k := State.memWrite_err_keeps h1
    exact ⟨k.ime, by rw [k.regs, State.setSp_pc], .inl (by rw [k.regs, State.setSp_sp]),
      fun _ => (State.ifr_of_memWrite_err h1).trans (s.setSp_ifr _)⟩
  · have k1 := State.memWrite_ok_keeps h1
    have k2 := State.memWrite_err_keeps h2
    refine ⟨k2.ime.trans k1.ime, by rw [k2.regs, State.setSp_pc, k1.regs, State.setSp_pc],
      .inr (by rw [k2.regs, State.setSp_sp]), fun hi => ?_⟩
    have hu := State.memWrite_ifr (s := s.setSp (s.regs.sp - 1)) (hiByte w) hi
    rw [h1] at hu
    exact (State.ifr_of_memWrite_err h2).trans hu

/-! The dispatch (R825). -/

section Dispatch
variable {s t : State} {k : IntKind}

theorem State.dispatch_of_push (h : State.push16 { s with ifr := s.ifr &&& ~~~k.mask } s.regs.pc = .ok t) :
    s.dispatch k = .ok { t.setPc k.vector with ime := false, eiPending := false } := by
  rw [State.dispatch, h]
  rfl

/-- A dispatch raises as its push does (R829). -/
theorem State.dispatch_eq_err {e : StepError} :
    s.dispatch k = .err e t ↔ State.push16 { s with ifr := s.ifr &&& ~~~k.mask } s.regs.pc = .err e t := by
  rw [State.dispatch]
  cases State.push16 { s with ifr := s.ifr &&& ~~~k.mask } s.regs.pc with
  | ok u => exact ⟨nofun, nofun⟩
  | err e' u => exact Iff.rfl

/-- What the rest of the step needs of a dispatch that completes. -/
theorem State.dispatch_ok_keeps (h : s.dispatch k = .ok t) :
    t.cycles = s.cycles ∧ t.doubleSpeed = s.doubleSpeed ∧ t.cfg = s.cfg ∧ t.intBreakpoints = s.intBreakpoints ∧
      t.eiPending = false := by
  obtain ⟨u, hu, hp⟩ | ⟨e, u, hu, -⟩ := s.dispatch_plain k <;> cases hu.symm.trans h
  exact ⟨hp.keeps.cycles, hp.doubleSpeed, hp.keeps.setup.cfg, hp.keeps.intBreakpoints, rfl⟩

end Dispatch

theorem IntKind.mask_eq_twoPow (k : IntKind) : k.mask = BitVec.twoPow 5 k.bit := by cases k <;> decide

theorem IntKind.vector_eq_getD (k : IntKind) : k.vector = ([0x0040, 0x0048, 0x0050, 0, 0x0060] : List Word).getD k.bit 0 := by
  cases k <;> rfl

/-- Settles O40: an entry is a push from the state with the request cleared. -/
theorem dispatchEnters : Obligations.DispatchEnters := by
  intro s k
  rw [← k.mask_eq_twoPow, ← k.vector_eq_getD]
  intro s0 vector
  constructor
  · intro hm h1 h2 hne
    have hwf : s0.MemoriesWf := ⟨hm.wram, hm.hram, hm.vram, hm.oam, hm.bgPalette, hm.objPalette, hm.rom, hm.extRam, hm.wave⟩
    obtain ⟨u, hu, hstored, honly⟩ := State.push16_ram (s := s0) hwf h1 h2 hne s.regs.pc
    refine ⟨_, State.dispatch_of_push hu, ?_, hstored, ?_⟩
    · simp only [State.setPc, State.push16_regs hu, s0, vector]
    · unfold OnlyRegsAndRam at honly ⊢
      rw [honly]
      rfl
  · exact fun e t h => State.push16_err_keeps (State.dispatch_eq_err.1 h)

end Sys2Proof.Machine
end

section
/-! A step that enters an interrupt (60_exceptions R810, R825, R826), and the breakpoints (R871, R872). -/

namespace Sys2Proof.Machine

/-- After its dispatch a step stops at an interrupt-breakpoint, else executes the handler's first instruction. -/
theorem step_of_dispatch {s t : State} {k : IntKind} (hf : s.fault = none) (hb : s.halted = true ∨ s.regs.pc ∉ s.breakpoints)
    (hk : s.serviceable = some k) (hd : State.dispatch { s with halted := false } k = .ok t) :
    step s = if k ∈ s.intBreakpoints then .next (t.takeIntBreakpoint k) else t.executeNext s.cfg.intDispatchCycles := by
  obtain ⟨-, hpending, -⟩ := (s.serviceable_eq_some_iff k).1 hk
  obtain ⟨-, -, hcfg, hkinds, -⟩ := State.dispatch_ok_keeps hd
  have hk' : State.serviceable { s with halted := false } = some k := hk
  rw [step_of_service hf hb (.inr (State.pending_ne_zero hpending)), State.serviceAndExecute]
  simp only [hk', hd, hkinds, hcfg, List.contains_iff_mem]

/-- Settles O41: the dispatch cost is charged together with the instruction's; the dispatch left no EI pending to settle. -/
theorem interruptStep : Obligations.InterruptStep := by
  intro s t u k i bs hf hb hk hn hd hdec hbytes hu huf
  obtain ⟨-, -, -, -, hei⟩ := State.dispatch_ok_keeps hd
  have hx : exec i (t.setPc (t.regs.pc + BitVec.ofNat 16 bs.length)) = .next u := hu
  rw [step_of_dispatch hf hb hk hd, if_neg hn, State.executeNext_eq _ hdec hbytes, hei, State.execute_completes hx huf]
  rfl

theorem State.mem_takeBreakpoint (s : State) (a : Word) :
    a ∈ s.takeBreakpoint.breakpoints ↔ a ∈ s.breakpoints ∧ a ≠ s.regs.pc := by
  simp [State.takeBreakpoint]

/-- Settles O43: the two stops of a step, each with its list filtered. -/
theorem breakpointStops : Obligations.BreakpointStops := by
  refine ⟨fun s hf hh hpc => ⟨_, s.mem_takeBreakpoint, ?stop⟩,
    fun s t k hf hb hk hmem hd => ⟨s.intBreakpoints.filter (· ≠ k), by simp, ?stopAfterDispatch⟩⟩
  case stop => exact step_of_breakpoint hf (by simp [State.atBreakpoint, hh, hpc])
  case stopAfterDispatch =>
    obtain ⟨hcycles, hspeed, hcfg, hkinds, -⟩ := State.dispatch_ok_keeps hd
    rw [step_of_dispatch hf hb hk hd, if_pos hmem, State.takeIntBreakpoint, State.charge, hcycles, hspeed, hcfg, hkinds]

end Sys2Proof.Machine
end

section
/-! A halted processor (60_exceptions R813, R826; 46_system R753): the next device event, and the step that goes to it. -/

namespace Sys2Proof.Machine

/-! The next device event (R813). -/

/-- An enabled timer's increment: the timer's part of `EventAt`. -/
def State.TimerEventAt (s : State) (n : Nat) : Prop :=
  s.timer.tac.getLsbD 2 = true ∧
    ∃ k, n = s.timer.nextTick + k * ([1024, 16, 64, 256] : List Nat).getD (s.timer.tac.toNat % 4) 0

/-- An edge of the audio synthesizer: its part of `EventAt`. -/
def State.AudioEventAt (s : State) (n : Nat) : Prop :=
  ∃ k, n = s.audio.nextSample + k * samplePeriod s.cfg ∨ n = s.audio.nextLength + k * 16384 ∨
    n = s.audio.nextEnvelope + k * 65536 ∨ n = s.audio.nextSweep + k * 32768

theorem State.eventAt_iff (s : State) (n : Nat) : s.EventAt n ↔ s.VideoEventAt n ∨ s.TimerEventAt n ∨ s.AudioEventAt n := Iff.rfl

theorem isLeast_of_mem_iff {A B : Set Nat} {n : Nat} (h : IsLeast A n) (hm : ∀ m, m ∈ B ↔ m ∈ A) : IsLeast B n :=
  Set.ext hm ▸ h

/-- The union's least element, where the second set has the least element `o` or is empty. -/
theorem isLeast_union_getD {A B : Set Nat} {a : Nat} {o : Option Nat} (ha : IsLeast A a)
    (hb : (∀ n, o = some n → IsLeast B n) ∧ (o = none → B = ∅)) : IsLeast (A ∪ B) (min a (o.getD a)) := by
  cases o with
  | none => simpa [hb.2 rfl] using ha
  | some n => exact ha.union (hb.1 n rfl)

theorem edgeAfter_isLeast (n t : Nat) {p : Nat} (hp : 0 < p) : IsLeast {m | t < m ∧ ∃ k, m = n + k * p} (edgeAfter n p t) := by
  obtain ⟨hlt, hedge, hleast⟩ := edgeAfter_least n p t hp
  refine ⟨⟨hlt, hedge⟩, ?_⟩
  rintro m ⟨hm, k, rfl⟩
  exact hleast k hm

theorem State.nextAudioEvent_isLeast (s : State) (t : Nat) : IsLeast {m | t < m ∧ s.AudioEventAt m} (s.nextAudioEvent t) := by
  have h := ((edgeAfter_isLeast s.audio.nextSample t (samplePeriod_pos s.cfg)).union
      (edgeAfter_isLeast s.audio.nextLength t (p := 16384) (by decide))).union
    ((edgeAfter_isLeast s.audio.nextEnvelope t (p := 65536) (by decide)).union
      (edgeAfter_isLeast s.audio.nextSweep t (p := 32768) (by decide)))
  refine isLeast_of_mem_iff h fun m => ?_
  simp only [Set.mem_ofPred_eq, Set.mem_union, State.AudioEventAt, exists_or, ← and_or_left, or_assoc]

/-- The video event, if the controller has one, is the least. -/
theorem State.nextVideoEvent_isLeast (s : State) (t : Nat) :
    (∀ n, s.nextVideoEvent t = some n → IsLeast {m | t < m ∧ s.VideoEventAt m} n) ∧
      (s.nextVideoEvent t = none → {m | t < m ∧ s.VideoEventAt m} = ∅) := by
  cases hf : s.lcdFrozen with
  | true => exact ⟨by simp [State.nextVideoEvent, hf], fun _ => by simp [State.VideoEventAt, hf]⟩
  | false =>
    obtain ⟨n, hn, hlt, hev, hleast⟩ := s.nextVideoEvent_least t hf
    rw [hn]
    refine ⟨fun m hm => ?_, nofun⟩
    cases hm
    exact ⟨⟨hlt, hev⟩, fun m ⟨hm, hv⟩ => hleast m hm hv⟩

/-- Every period is at least 16 cycles. -/
theorem tacPeriod_ge (tac : BitVec 3) : 16 ≤ tacPeriod tac := by
  revert tac
  decide

/-- The timer's increment, if it runs, is the least. -/
theorem State.nextTimerEvent_isLeast (s : State) (t : Nat) :
    (∀ n, s.nextTimerEvent t = some n → IsLeast {m | t < m ∧ s.TimerEventAt m} n) ∧
      (s.nextTimerEvent t = none → {m | t < m ∧ s.TimerEventAt m} = ∅) := by
  have hp : 0 < tacPeriod s.timer.tac := Nat.lt_of_lt_of_le (by decide) (tacPeriod_ge _)
  have hl := edgeAfter_isLeast s.timer.nextTick t hp
  unfold State.nextTimerEvent State.TimerEventAt
  rw [Timer.running, bitAt, ← tacPeriod_eq]
  cases s.timer.tac.getLsbD 2 with
  | false => exact ⟨nofun, fun _ => by simp⟩
  | true => exact ⟨fun n hn => by simpa [← Option.some.inj hn] using hl, nofun⟩

/-- The next device event is the least cycle value after `t` at which any device has one. -/
theorem State.nextEvent_isLeast (s : State) (t : Nat) : IsLeast {m | t < m ∧ s.EventAt m} (s.nextEvent t) := by
  have ha := s.nextAudioEvent_isLeast t
  have h := (isLeast_union_getD ha (s.nextVideoEvent_isLeast t)).union (isLeast_union_getD ha (s.nextTimerEvent_isLeast t))
  rw [← inf_inf_distrib_left] at h
  refine isLeast_of_mem_iff h fun m => ?_
  simp only [Set.mem_ofPred_eq, Set.mem_union, s.eventAt_iff]
  tauto

/-! The two steps of a halted processor. -/

/-- Settles O42: waking is phase 3 of a processor not halted, fast-forwarding a pump to `nextEvent`. -/
theorem haltedSteps : Obligations.HaltedSteps := by
  refine ⟨fun s k hf hh _ hk hpc => ?wakes, fun s hf hh hk => ?passes, fun s n => ?least⟩
  case wakes =>
    have hawake := step_of_service (s := { s with halted := false }) hf (.inr hpc) (.inl rfl)
    exact (step_of_service hf (.inl hh) (.inr (State.pending_ne_zero hk))).trans hawake.symm
  case passes =>
    obtain ⟨g, front, back, m, x, n, a, d, ⟨_, _, _, _, _, _, _, _, _, _, _, _, _, _, ha⟩, hp⟩ :=
      State.pump_frame { s with cycles := s.nextEvent s.cycles, stepResult := .ok } (s.nextEvent s.cycles)
    refine ⟨_, (step_of_fastForward hf hh (s.pending_eq_zero_iff.2 hk)).trans (congrArg _ hp), s.lt_nextEvent s.cycles, rfl, rfl,
      rfl, rfl, rfl, hh, rfl, rfl, hf, rfl, rfl, fun i => ?_, rfl, rfl, ?_, rfl, rfl⟩
    · cases i <;> rfl
    · rw [ha]
  case least =>
    obtain ⟨⟨hlt, hev⟩, hleast⟩ := s.nextEvent_isLeast n
    exact ⟨hlt, hev, fun m hm he => hleast ⟨hm, he⟩⟩

end Sys2Proof.Machine
end

section
/-! The registers of the bus (20_memory R202, R212): which address reaches which, and what a read and a write of one answer. -/

namespace Sys2Proof.Machine

/-! Bits read from a register. -/

/-- Under the mask the bits are the draw's, elsewhere the register's (R212). -/
theorem getLsbD_blend (mask d v : Byte) (k : Nat) :
    (blend mask d v).getLsbD k = if mask.getLsbD k then d.getLsbD k else v.getLsbD k := by
  simp only [blend, BitVec.getLsbD_or, BitVec.getLsbD_and, BitVec.getLsbD_not]
  cases hm : mask.getLsbD k with
  | true => simp
  | false => simpa using v.lt_of_getLsbD

theorem getLsbD_blend_of_unmasked {mask d v : Byte} {k : Nat} (hm : mask.getLsbD k = false) :
    (blend mask d v).getLsbD k = v.getLsbD k := by
  rw [getLsbD_blend, hm, if_neg Bool.false_ne_true]

/-- A field of `n` bits that the mask leaves is the register's. -/
theorem extractLsb'_blend {mask d v : Byte} {n : Nat} (hm : ∀ k, k < n → mask.getLsbD k = false) :
    (blend mask d v).extractLsb' 0 n = v.extractLsb' 0 n := by
  apply BitVec.eq_of_getLsbD_eq
  intro k hk
  simp [getLsbD_blend, hm k hk]

/-- A field narrower than a byte is read back from the byte it is put in. -/
theorem extractLsb'_zeroExtend {n : Nat} (x : BitVec n) (hn : n ≤ 8) : (x.zeroExtend 8).extractLsb' 0 n = x := by
  apply BitVec.eq_of_getLsbD_eq
  intro k hk
  simp [hk, Nat.lt_of_lt_of_le hk hn]

/-- BCPS and OCPS show the index and the auto-increment bit (R909). -/
theorem paletteIndex_read (p : PaletteIndex) (d : Byte) :
    let w := blend 0x40 d (bitByte 7 p.autoIncrement ||| p.index.zeroExtend 8)
    w.getLsbD 7 = p.autoIncrement ∧ w.extractLsb' 0 6 = p.index := by
  constructor
  · rw [getLsbD_blend_of_unmasked (by decide), BitVec.getLsbD_or, getLsbD_bitByte (by decide)]
    simp
  · have hflag : (bitByte 7 p.autoIncrement).extractLsb' 0 6 = 0 := by cases p.autoIncrement <;> decide
    rw [extractLsb'_blend (by decide), BitVec.extractLsb'_or, hflag, extractLsb'_zeroExtend _ (by decide)]
    exact BitVec.zero_or

/-- KEY1 shows DOUBLE_SPEED and SPEED_PREP (R122). -/
theorem key1_read (speed prep : Bool) (d : Byte) :
    let w := blend 0x7E d (bitByte 7 speed ||| bitByte 0 prep)
    w.getLsbD 7 = speed ∧ w.getLsbD 0 = prep := by
  constructor <;>
    rw [getLsbD_blend_of_unmasked (by decide), BitVec.getLsbD_or, getLsbD_bitByte (by decide), getLsbD_bitByte (by decide)] <;>
    simp

/-! Where the registers are. -/

/-- A register of both modes. -/
theorem State.target_reg (s : State) {a : Word} {r : IoReg} (hr : regionOf a = .io)
    (h : ∀ color, ioRegAt color (a.toNat - 0xFF00) = some r) : s.target a = .io r := by
  rw [s.target_io hr, ioTarget, h]

/-- A register of color mode. -/
theorem State.target_colorReg {s : State} {a : Word} {r : IoReg} (hc : s.colorMode = true) (hr : regionOf a = .io)
    (h : ioRegAt true (a.toNat - 0xFF00) = some r) : s.target a = .io r := by
  rw [s.target_io hr, hc, ioTarget, h]

/-- The bytes of wave RAM (R952). -/
theorem State.target_wave (s : State) {k : Nat} (hk : k < 16) : s.target (0xFF30 + BitVec.ofNat 16 k) = .io (.wave k) := by
  have ha : (0xFF30 + BitVec.ofNat 16 k : Word).toNat = 0xFF30 + k := by bv_omega
  refine s.target_reg (regionOf_eq_iff.2 ?_) fun color => ?_ <;> rw [ha]
  · simp only [Region.lo, Region.hi]
    omega
  · have hn : 0xFF30 + k - 0xFF00 = 0x30 + k := by omega
    rw [hn, ioRegAt, if_pos ⟨by omega, by omega⟩, Nat.add_sub_cancel_left]

section Unwatched
variable {s : State} {a : Word} {r : IoReg}

/-- Without watchpoints a read of a register's address is the register's. -/
theorem State.memRead_reg (hw : s.watchpoints = []) (ht : s.target a = .io r) :
    s.memRead a = .ok (s.ioRead (Config.freeByte s.draw a.toNat) r) := by
  simp only [State.memRead, State.watchHit_of_nil a hw, ht]

/-- Without watchpoints a write to a register's address is the register's; the draw counter goes up. -/
theorem State.memWrite_reg (hw : s.watchpoints = []) (ht : s.target a = .io r) (v : Byte) :
    s.memWrite a v = State.ioWrite { s with draw := s.draw + 1 } r v :=
  State.memWrite_io v (State.watchHit_of_nil a hw) ht

/-- A register that stores the written byte reads it back. -/
theorem State.memRead_memWrite_reg {u : State} {v : Byte} (hw : s.watchpoints = []) (hr : regionOf a = .io)
    (h : ∀ color, ioRegAt color (a.toNat - 0xFF00) = some r)
    (hwrite : State.ioWrite { s with draw := s.draw + 1 } r v = .ok { u with draw := s.draw + 1 })
    (hread : ∀ d, State.ioRead { u with draw := s.draw + 1 } d r = v) :
    ∃ t, s.memWrite a v = .ok t ∧ t = { u with draw := t.draw } ∧ t.memRead a = .ok v := by
  have ht := (State.memWrite_reg hw (s.target_reg hr h) v).trans hwrite
  have hw' := (State.memWrite_ok_keeps ht).setup.watchpoints.trans hw
  refine ⟨_, ht, rfl, ?_⟩
  rw [State.memRead_reg hw' (State.target_reg _ hr h), hread]

end Unwatched

end Sys2Proof.Machine
end

section
/-! The timer (60_exceptions R840 to R844): the increments of a pump, and the writes of DIV and TAC. -/

namespace Sys2Proof.Machine

/-! The increments of a pump (R843). -/

/-- From `s` to `t` the timer made `n` increments: where TIMA stands until its first overflow, and the request of an overflow. -/
structure TimerRan (s t : State) (n : Nat) : Prop where
  nextTick : t.timer.nextTick = s.timer.nextTick + n * tacPeriod s.timer.tac
  counts : s.timer.tima.toNat + n ≤ 255 → t.timer.tima = s.timer.tima + BitVec.ofNat 8 n ∧ t.ifr = s.ifr
  reloads : s.timer.tima.toNat + n = 256 → t.timer.tima = s.timer.tma
  requests : 256 ≤ s.timer.tima.toNat + n → t.ifr = s.ifr ||| 4

theorem TimerRan.zero (s : State) : TimerRan s s 0 := by
  have hlt := s.timer.tima.isLt
  exact ⟨by simp, by simp, fun h => by omega, fun h => by omega⟩

theorem State.timerTick_timer (s : State) : s.timerTick.timer = s.timer.tick := by
  unfold State.timerTick State.requestIf
  split <;> rfl

theorem State.timerTick_ifr (s : State) : s.timerTick.ifr = if s.timer.tima = 0xFF then s.ifr ||| 4 else s.ifr := by
  simp only [State.timerTick, State.requestIf, decide_eq_true_eq]
  split <;> rfl

theorem State.timerTick_nextTick (s : State) :
    s.timerTick.timer.nextTick = s.timer.nextTick + tacPeriod s.timer.tac := by
  rw [s.timerTick_timer, Timer.tick]

theorem State.timerTick_tac (s : State) : s.timerTick.timer.tac = s.timer.tac := by
  rw [s.timerTick_timer, Timer.tick]

/-- One increment, then `n` more. -/
theorem TimerRan.tick {s t : State} {n : Nat} (h : TimerRan s.timerTick t n) : TimerRan s t (n + 1) := by
  obtain ⟨hnext, hcounts, hreloads, hrequests⟩ := h
  simp only [s.timerTick_timer, s.timerTick_ifr, Timer.tick] at hnext hcounts hreloads hrequests
  have hnext' : t.timer.nextTick = s.timer.nextTick + (n + 1) * tacPeriod s.timer.tac := by rw [hnext]; ring
  by_cases hmax : s.timer.tima = 0xFF
  · simp only [if_pos hmax] at hcounts hreloads hrequests
    have hnat : s.timer.tima.toNat = 255 := congrArg BitVec.toNat hmax
    refine ⟨hnext', fun h => by omega, fun h => ?_, fun _ => ?_⟩
    · obtain rfl : n = 0 := by omega
      simpa using (hcounts s.timer.tma.isLt.le_pred).1
    · by_cases hn : s.timer.tma.toNat + n ≤ 255
      · exact (hcounts hn).2
      · rw [hrequests (by omega), BitVec.or_assoc, BitVec.or_self]
  · simp only [if_neg hmax] at hcounts hreloads hrequests
    have hnat : (s.timer.tima + 1).toNat = s.timer.tima.toNat + 1 := by bv_omega
    rw [hnat, Nat.add_assoc, Nat.add_comm 1 n] at hcounts hreloads hrequests
    refine ⟨hnext', fun h => ⟨?_, (hcounts h).2⟩, hreloads, hrequests⟩
    rw [(hcounts h).1, BitVec.add_assoc, Nat.add_comm n 1, BitVec.ofNat_add]
    rfl

/-- A running timer makes its increments up to cycle `t`, given fuel for them: no period is below 16. -/
theorem State.timerTicks_ran {t fuel : Nat} {s : State} (hr : s.timer.running = true) (hf : t < s.timer.nextTick + fuel * 16) :
    ∃ n, TimerRan s (State.timerTicks t fuel s) n ∧ t < s.timer.nextTick + n * tacPeriod s.timer.tac ∧
      (0 < n → s.timer.nextTick + n * tacPeriod s.timer.tac ≤ t + tacPeriod s.timer.tac) := by
  induction fuel generalizing s with
  | zero => exact ⟨0, .zero s, by simpa using hf, nofun⟩
  | succ fuel ih =>
    by_cases hle : s.timer.nextTick ≤ t
    · have hp := tacPeriod_ge s.timer.tac
      have hr' : s.timerTick.timer.running = true := by rwa [Timer.running, s.timerTick_tac]
      obtain ⟨n, hran, hlt, hbound⟩ := ih hr' (by rw [s.timerTick_nextTick]; omega)
      rw [s.timerTick_nextTick, s.timerTick_tac] at hlt hbound
      refine ⟨n + 1, ?_, ?_, fun _ => ?_⟩
      · rw [State.timerTicks, hr, decide_eq_true hle]
        exact hran.tick
      · rw [Nat.add_mul]
        omega
      · rw [Nat.add_mul]
        rcases Nat.eq_zero_or_pos n with rfl | hn
        · omega
        · have := hbound hn
          omega
    · refine ⟨0, ?_, by omega, nofun⟩
      rw [State.timerTicks, decide_eq_false hle, Bool.and_false]
      exact .zero s

theorem State.timerPump_ran {s : State} (t : Nat) (hr : s.timer.running = true) :
    ∃ n, TimerRan s (s.timerPump t) n ∧ t < s.timer.nextTick + n * tacPeriod s.timer.tac ∧
      (0 < n → s.timer.nextTick + n * tacPeriod s.timer.tac ≤ t + tacPeriod s.timer.tac) :=
  State.timerTicks_ran hr (by omega)

theorem State.timerPump_stopped {s : State} (t : Nat) (hr : s.timer.running = false) : s.timerPump t = s := by
  rw [State.timerPump, State.timerTicks, hr]
  rfl

/-! The writes of DIV and TAC (R841, R844). -/

theorem Timer.writeTac_tac (tm : Timer) (v : Byte) (t : Nat) : (tm.writeTac v t).tac.toNat = v.toNat % 8 := by
  simp [Timer.writeTac]

theorem Timer.writeTac_nextTick (tm : Timer) {v : Byte} (t : Nat) (h : v.getLsbD 2 = true) :
    (tm.writeTac v t).nextTick = t + ([1024, 16, 64, 256] : List Nat).getD (v.toNat % 4) 0 := by
  have hm : (v.extractLsb' 0 3).toNat % 4 = v.toNat % 4 := by
    rw [BitVec.extractLsb'_toNat]
    omega
  rw [Timer.writeTac, ← hm, ← tacPeriod_eq]
  exact if_pos h

/-- Settles O51: the pump by `TimerRan`, the registers by their addresses. -/
theorem timerCounts : Obligations.TimerCounts := by
  refine ⟨fun s t p hp => ⟨State.timerPump_stopped t, fun hr => ?pump⟩, fun s v hw => ?registers⟩
  case pump =>
    rw [← tacPeriod_eq] at hp
    subst hp
    obtain ⟨n, hran, hlt, hbound⟩ := State.timerPump_ran t hr
    exact ⟨n, hran.nextTick, hlt, hbound, hran.counts, hran.reloads, hran.requests⟩
  case registers =>
    have hdiv : s.target 0xFF04 = .io .div := s.target_reg (by decide) (by decide)
    have htac : s.target 0xFF07 = .io .tac := s.target_reg (by decide) (by decide)
    exact ⟨State.memRead_reg hw hdiv, ⟨_, State.memWrite_reg hw hdiv v, rfl⟩, _, State.memWrite_reg hw htac v,
      s.timer.writeTac_tac v s.cycles, rfl, rfl, rfl, s.timer.writeTac_nextTick s.cycles⟩

end Sys2Proof.Machine
end

section
/-! The input latch (60_exceptions R850, R851). -/

namespace Sys2Proof.Machine

/-- The select bits stand above the four button bits, each 0 where a selected group's button is pressed (R850). -/
theorem Input.getLsbD_low6 (i : Input) (k : Nat) :
    i.low6.getLsbD k =
      if k < 4 then
        !((!i.select.getLsbD 0 && i.directions.getLsbD k) || (!i.select.getLsbD 1 && i.actions.getLsbD k))
      else i.select.getLsbD (k - 4) := by
  have h (hold : Bool) (g : BitVec 4) : (if hold then 0 else g).getLsbD k = (!hold && g.getLsbD k) := by cases hold <;> simp
  have happ : i.low6.getLsbD k = _ := BitVec.getLsbD_append
  rw [happ, BitVec.getLsbD_not, BitVec.getLsbD_or, h, h]
  simp only [bitAt]
  split <;> simp [*]

/-- A P1 read shows the latch below its two unused bits. -/
theorem Input.getLsbD_read (i : Input) (d : Byte) {k : Nat} (hk : k < 6) :
    (blend 0xC0 d (i.low6.zeroExtend 8)).getLsbD k = i.low6.getLsbD k := by
  have hm : (0xC0 : Byte).getLsbD k = false := by
    revert k
    decide
  rw [getLsbD_blend_of_unmasked hm, BitVec.getLsbD_setWidth, decide_eq_true (Nat.lt_trans hk (by decide)),
    Bool.true_and]

/-- Settles O52: the read bit by bit; each button's mask is its own power of two. -/
theorem buttons : Obligations.Buttons := by
  refine ⟨fun s v hw => ?p1, fun s button k => ⟨rfl, rfl, fun h => ?directions, fun h => ?actions⟩⟩
  case p1 =>
    have ht : s.target 0xFF00 = .io .p1 := s.target_reg (by decide) (by decide)
    refine ⟨⟨_, State.memRead_reg hw ht, fun k hk => ?_, ?_, ?_⟩, _, State.memWrite_reg hw ht v, rfl⟩
    · exact (s.input.getLsbD_read _ (Nat.lt_trans hk (by decide))).trans ((s.input.getLsbD_low6 k).trans (if_pos hk))
    all_goals exact (s.input.getLsbD_read _ (by decide)).trans (s.input.getLsbD_low6 _)
  case directions | actions =>
    simp only [List.mem_cons, Prod.mk.injEq, List.not_mem_nil, or_false] at h
    obtain ⟨rfl, rfl⟩ | ⟨rfl, rfl⟩ | ⟨rfl, rfl⟩ | ⟨rfl, rfl⟩ := h <;> exact ⟨rfl, rfl⟩

end Sys2Proof.Machine
end

section
/-! The other registers (60_exceptions R821, R822; 10_state R121 to R125; 61_video_audio R902, R904, R908, R909, R916, R952). -/

namespace Sys2Proof.Machine

/-- The palette index after a data write (R909). -/
theorem PaletteIndex.next_eq (p : PaletteIndex) :
    p.next = ⟨p.autoIncrement, if p.autoIncrement then p.index + 1 else p.index⟩ := by
  unfold PaletteIndex.next
  split <;> rfl

/-- A write of LCDC restarts the timing where it was stopped (R916). -/
theorem State.writeLcdc_eq (s : State) (v : Byte) :
    s.writeLcdc v = { s with video := { s.video with
      lcdc := v, videoBase := if s.lcdFrozen = true ∧ v.getLsbD 7 = true then s.cycles else s.video.videoBase } } := by
  simp only [State.writeLcdc, bitAt, Bool.and_eq_true]

/-- The registers of color mode have no owner in monochrome mode (R202). -/
theorem State.target_colorReg_monochrome {s : State} {a : Word} (hc : s.colorMode = false) (ha : a ∈
    ([0xFF4D, 0xFF4F, 0xFF51, 0xFF52, 0xFF53, 0xFF54, 0xFF55, 0xFF68, 0xFF69, 0xFF6A, 0xFF6B, 0xFF70] : List Word)) :
    s.target a = .unmapped := by
  have h : ∀ b ∈ ([0xFF4D, 0xFF4F, 0xFF51, 0xFF52, 0xFF53, 0xFF54, 0xFF55, 0xFF68, 0xFF69, 0xFF6A, 0xFF6B, 0xFF70] : List Word),
      regionOf b = .io ∧ ioTarget false (b.toNat - 0xFF00) = .unmapped := by
    simp only [List.forall_mem_cons, List.not_mem_nil, false_imp_iff, implies_true, and_true]
    decide
  obtain ⟨hr, ht⟩ := h a ha
  rw [s.target_io hr, hc, ht]

/-- Settles O53: each address by the register it reaches. -/
theorem registerAccess : Obligations.RegisterAccess := by
  intro s v hw
  refine ⟨?requests, fun hc a => State.target_colorReg_monochrome hc, fun hc => ?colorControl, fun hc => ?palettes, ?others⟩
  case requests =>
    have hif : s.target 0xFF0F = .io .ifr := s.target_reg (by decide) (by decide)
    have hie : s.target 0xFFFF = .ie := rfl
    have hn := State.watchHit_of_nil 0xFFFF hw
    refine ⟨⟨_, State.memRead_reg hw hif, ?_⟩, ⟨_, State.memWrite_reg hw hif v, rfl⟩, ?_, ?_⟩
    · exact (extractLsb'_blend (by decide)).trans (extractLsb'_zeroExtend _ (by decide))
    · simp only [State.memRead, hn, hie]
    · simp only [State.memWrite, hn, hie]
  case colorControl =>
    have reg {a r} (hr : regionOf a = .io) (h : ioRegAt true (a.toNat - 0xFF00) = some r) : s.target a = .io r :=
      State.target_colorReg hc hr h
    have key1 : s.target 0xFF4D = .io .key1 := reg (by decide) (by decide)
    have svbk : s.target 0xFF70 = .io .svbk := reg (by decide) (by decide)
    have vbk : s.target 0xFF4F = .io .vbk := reg (by decide) (by decide)
    have hdma1 : s.target 0xFF51 = .io .hdma1 := reg (by decide) (by decide)
    have hdma2 : s.target 0xFF52 = .io .hdma2 := reg (by decide) (by decide)
    have hdma3 : s.target 0xFF53 = .io .hdma3 := reg (by decide) (by decide)
    have hdma4 : s.target 0xFF54 = .io .hdma4 := reg (by decide) (by decide)
    have hdma5 : s.target 0xFF55 = .io .hdma5 := reg (by decide) (by decide)
    refine ⟨⟨_, State.memRead_reg hw key1, key1_read _ _ _⟩, ⟨_, State.memWrite_reg hw key1 v, rfl⟩,
      ⟨_, State.memRead_reg hw svbk, ?_⟩, ⟨_, State.memWrite_reg hw svbk v, rfl⟩,
      ⟨_, State.memRead_reg hw vbk, ?_⟩, ⟨_, State.memWrite_reg hw vbk v, rfl⟩,
      ⟨_, State.memWrite_reg hw hdma1 v, rfl⟩, ⟨_, State.memWrite_reg hw hdma2 v, rfl⟩,
      ⟨_, State.memWrite_reg hw hdma3 v, rfl⟩, ⟨_, State.memWrite_reg hw hdma4 v, rfl⟩, State.memRead_reg hw hdma5⟩
    all_goals exact (extractLsb'_blend (by decide)).trans (extractLsb'_zeroExtend _ (by decide))
  case palettes =>
    intro next
    have bcps : s.target 0xFF68 = .io .bcps := State.target_colorReg hc (by decide) (by decide)
    have bcpd : s.target 0xFF69 = .io .bcpd := State.target_colorReg hc (by decide) (by decide)
    have ocps : s.target 0xFF6A = .io .ocps := State.target_colorReg hc (by decide) (by decide)
    have ocpd : s.target 0xFF6B = .io .ocpd := State.target_colorReg hc (by decide) (by decide)
    have hnext (p : PaletteIndex) : next p = p.next := p.next_eq.symm
    rw [hnext, hnext]
    exact ⟨⟨_, State.memRead_reg hw bcps, paletteIndex_read _ _⟩, ⟨_, State.memWrite_reg hw bcps v, rfl⟩,
      State.memRead_reg hw bcpd, ⟨_, State.memWrite_reg hw bcpd v, rfl⟩,
      ⟨_, State.memRead_reg hw ocps, paletteIndex_read _ _⟩, ⟨_, State.memWrite_reg hw ocps v, rfl⟩,
      State.memRead_reg hw ocpd, ⟨_, State.memWrite_reg hw ocpd v, rfl⟩⟩
  case others =>
    have dma : s.target 0xFF46 = .io .dma := s.target_reg (by decide) (by decide)
    have stat : s.target 0xFF41 = .io .stat := s.target_reg (by decide) (by decide)
    have ly : s.target 0xFF44 = .io .ly := s.target_reg (by decide) (by decide)
    refine ⟨State.memRead_reg hw dma, ⟨_, State.memWrite_reg hw stat v, rfl⟩, ⟨_, State.memWrite_reg hw ly v, rfl⟩,
      fun k hk => ⟨State.memRead_reg hw (s.target_wave hk), _, State.memWrite_reg hw (s.target_wave hk) v, rfl⟩, ?_⟩
    rw [← s.writeLcdc_eq v]
    have plain (a : Word) (r : IoReg) {u} (h : regionOf a = .io ∧ ∀ color, ioRegAt color (a.toNat - 0xFF00) = some r) :=
      State.memRead_memWrite_reg (u := u) (v := v) hw h.1 h.2
    intro p hp
    simp only [List.mem_cons, List.not_mem_nil, or_false] at hp
    obtain rfl | rfl | rfl | rfl | rfl | rfl | rfl | rfl | rfl | rfl | rfl := hp
    exacts [plain 0xFF05 .tima (by decide) rfl fun _ => rfl, plain 0xFF06 .tma (by decide) rfl fun _ => rfl,
      plain 0xFF40 .lcdc (by decide) rfl fun _ => rfl, plain 0xFF42 .scy (by decide) rfl fun _ => rfl,
      plain 0xFF43 .scx (by decide) rfl fun _ => rfl, plain 0xFF45 .lyc (by decide) rfl fun _ => rfl,
      plain 0xFF47 .bgp (by decide) rfl fun _ => rfl, plain 0xFF48 .obp0 (by decide) rfl fun _ => rfl,
      plain 0xFF49 .obp1 (by decide) rfl fun _ => rfl, plain 0xFF4A .wy (by decide) rfl fun _ => rfl,
      plain 0xFF4B .wx (by decide) rfl fun _ => rfl]

end Sys2Proof.Machine
end

section
/-! The pump's video timing (61_video_audio R902, R904, R910): line, dot and mode while the timing runs. -/

namespace Sys2Proof.Machine

/-- With `LCD_OFF_TIMING = continues` the timing always runs (R916). -/
theorem State.lcdFrozen_of_continues {s : State} (h : s.cfg.lcdOffTiming = .continues) : s.lcdFrozen = false := by
  simp [State.lcdFrozen, h]

/-- LY while the timing runs, in the integers (R910). -/
theorem State.lineAt_cast {s : State} (hf : s.lcdFrozen = false) (t : Nat) :
    (s.lineAt t : Int) = ((t : Int) - s.video.videoBase) / 456 % 154 := by
  rw [State.lineAt, hf, if_neg Bool.false_ne_true, State.videoClock]
  omega

theorem State.dotAt_cast (s : State) (t : Nat) : (s.dotAt t : Int) = ((t : Int) - s.video.videoBase) % 456 := by
  rw [State.dotAt, State.videoClock]
  omega

/-- The mode while the timing runs (R910). -/
theorem State.modeAt_running {s : State} (hf : s.lcdFrozen = false) (t : Nat) :
    s.modeAt t =
      let u : Int := (t : Int) - s.video.videoBase
      if 144 ≤ u / 456 % 154 then 1 else if u % 456 < 80 then 2 else if u % 456 < 252 then 3 else 0 := by
  simp only [State.modeAt, hf, Bool.false_eq_true, if_false, ← State.lineAt_cast hf, ← s.dotAt_cast]
  norm_cast

/-- A STAT read shows the mode, the line-compare match and the stored enables (R904). -/
theorem stat_read (d : Byte) (stat : BitVec 4) (m : Bool) {mode : Nat} (hmode : mode < 4) :
    let w := blend 0x80 d ((stat.zeroExtend 8 <<< 3) ||| bitByte 2 m ||| BitVec.ofNat 8 mode)
    w.toNat % 4 = mode ∧ w.getLsbD 2 = m ∧ w.extractLsb' 3 4 = stat := by
  intro w
  have hbit (k : Nat) (hk : k < 7) :
      w.getLsbD k = ((!decide (k < 3) && stat.getLsbD (k - 3)) || (m && decide (2 = k)) || mode.testBit k) := by
    have hmask : (0x80 : Byte).getLsbD k = false := by
      revert k
      decide
    rw [getLsbD_blend_of_unmasked hmask, BitVec.getLsbD_or, BitVec.getLsbD_or, getLsbD_bitByte (by decide),
      BitVec.getLsbD_shiftLeft, BitVec.getLsbD_setWidth, BitVec.getLsbD_ofNat, decide_eq_true (by omega : k < 8),
      decide_eq_true (by omega : k - 3 < 8)]
    simp only [Bool.true_and]
  refine ⟨?mode, ?hit, ?enables⟩
  case mode =>
    have hlow : w.extractLsb' 0 2 = BitVec.ofNat 2 mode := by
      apply BitVec.eq_of_getLsbD_eq
      intro k hk
      rw [BitVec.getLsbD_extractLsb', hbit _ (by omega), BitVec.getLsbD_ofNat]
      simp [hk, show k < 3 by omega, show 2 ≠ k by omega]
    have h := congrArg BitVec.toNat hlow
    rwa [BitVec.extractLsb'_toNat, BitVec.toNat_ofNat, Nat.mod_eq_of_lt hmode] at h
  case hit =>
    rw [hbit 2 (by decide), Nat.testBit_lt_two_pow hmode]
    simp
  case enables =>
    apply BitVec.eq_of_getLsbD_eq
    intro k hk
    have hlt : mode < 2 ^ (3 + k) := hmode.trans_le (Nat.pow_le_pow_right (n := 2) (by decide) (by omega : 2 ≤ 3 + k))
    rw [BitVec.getLsbD_extractLsb', hbit _ (by omega), Nat.testBit_lt_two_pow hlt]
    simp [hk, show 2 ≠ 3 + k by omega]

/-- Settles O54: LY and STAT are read at their addresses, each a function of the pumped cycle value. -/
theorem lineAndMode : Obligations.LineAndMode := by
  intro s hw hc
  have hf := State.lcdFrozen_of_continues hc
  have ly : s.target 0xFF44 = .io .ly := s.target_reg (by decide) (by decide)
  have stat : s.target 0xFF41 = .io .stat := s.target_reg (by decide) (by decide)
  refine ⟨?_, _, State.memRead_reg hw stat, ?_⟩
  · rw [State.memRead_reg hw ly, ← State.lineAt_cast hf]
    rfl
  · rw [← State.modeAt_running hf]
    have hlt : s.modeAt s.lastPump < 4 := by
      rw [State.modeAt_running hf]
      dsimp only
      split_ifs <;> decide
    exact stat_read _ s.video.stat s.video.prevMatch hlt

end Sys2Proof.Machine
end

section
/-! The video controller's requests (61_video_audio R910 to R915): what each event asks for, and that a pump takes every event. -/

namespace Sys2Proof.Machine

theorem State.requestIf_ifr (s : State) (b : Bool) (k : IntKind) :
    (s.requestIf b k).ifr = s.ifr ||| if b then k.mask else 0 := by
  cases b
  · exact BitVec.or_zero.symm
  · rfl

theorem State.requestIf_video (s : State) (b : Bool) (k : IntKind) : (s.requestIf b k).video = s.video := by
  cases b <;> rfl

/-- One evaluation of the line compare: the match is stored, its rising edge requests (R915). -/
theorem State.lineCompare_eq (s : State) (t : Nat) :
    s.lineCompare t = { s with
      ifr := if s.lineAt t = s.video.lyc.toNat ∧ s.video.prevMatch = false ∧ s.video.stat.getLsbD 3 = true
        then s.ifr ||| 2 else s.ifr
      video := { s.video with prevMatch := decide (s.lineAt t = s.video.lyc.toNat) } } := by
  have h : (decide (s.lineAt t = s.video.lyc.toNat) && !s.video.prevMatch && bitAt s.video.stat 3) =
      decide (s.lineAt t = s.video.lyc.toNat ∧ s.video.prevMatch = false ∧ s.video.stat.getLsbD 3 = true) := by
    simp [bitAt, Bool.and_assoc]
  rw [State.lineCompare, h]
  by_cases he : s.lineAt t = s.video.lyc.toNat ∧ s.video.prevMatch = false ∧ s.video.stat.getLsbD 3 = true
  · simp only [State.requestIf, decide_eq_true he, if_pos he, if_true]
    rfl
  · simp only [State.requestIf, decide_eq_false he, if_neg he, Bool.false_eq_true, if_false]

/-- What a line start does before it evaluates the line compare: line 144 starts the vertical blank, a visible line the search
(R912, R913). -/
def State.lineEntry (s : State) (ly : Nat) : State :=
  if ly = 144 then s.vblankStart
  else if ly < 144 then s.requestIf (bitAt s.video.stat 2) .videoStatus
  else s

theorem State.lineStart_eq (s : State) (t : Nat) : s.lineStart t = (s.lineEntry (s.lineAt t)).lineCompare t := rfl

/-- The video events by the dot they come at (R910). -/
theorem State.videoEvent_lineStart {s : State} {n : Nat} (h : s.dotAt n = 0) : s.videoEvent n = s.lineStart n := if_pos h

theorem State.videoEvent_hblankStart {s : State} {n : Nat} (h : s.dotAt n = 252) : s.videoEvent n = s.hblankStart n := by
  simp [State.videoEvent, h]

theorem State.videoEvent_drawingStart {s : State} {n : Nat} (h : s.dotAt n = 80) : s.videoEvent n = s := by
  simp [State.videoEvent, h]

theorem State.lineEntry_frame (s : State) (ly : Nat) : VideoFrame s (s.lineEntry ly) := by
  unfold State.lineEntry
  split_ifs
  · exact .requestIf (.request ⟨0, s.video.back, s.video.front, s.video.prevMatch, by simp [Video.swapBuffers]⟩ _) _ _
  · exact (VideoFrame.refl s).requestIf _ _
  · exact .refl s

theorem State.lineEntry_prevMatch (s : State) (ly : Nat) : (s.lineEntry ly).video.prevMatch = s.video.prevMatch := by
  unfold State.lineEntry
  split_ifs
  · rw [State.vblankStart, State.requestIf_video]
    rfl
  · rw [State.requestIf_video]
  · rfl

theorem State.lineEntry_ifr (s : State) (ly : Nat) :
    (s.lineEntry ly).ifr = s.ifr ||| (if ly = 144 then 1 else 0) |||
      (if (ly = 144 ∧ s.video.stat.getLsbD 1 = true) ∨ (ly < 144 ∧ s.video.stat.getLsbD 2 = true) then 2 else 0) := by
  by_cases h144 : ly = 144
  · simp [State.lineEntry, State.vblankStart, State.requestIf_ifr, bitAt, IntKind.mask, h144]
  · by_cases hvisible : ly < 144
    · simp [State.lineEntry, State.requestIf_ifr, bitAt, IntKind.mask, h144, hvisible]
    · simp [State.lineEntry, h144, hvisible]

/-- A rising edge of the line compare adds its request to those the line's entry made. -/
theorem or_ite_or (x : BitVec 5) (p q : Prop) [Decidable p] [Decidable q] :
    (if q then (x ||| if p then 2 else 0) ||| 2 else x ||| if p then 2 else 0) = x ||| if p ∨ q then 2 else 0 := by
  by_cases hp : p <;> by_cases hq : q <;> simp [hp, hq, BitVec.or_assoc]

/-- What a line start requests (R912, R913, R915). -/
theorem State.lineStart_ifr (s : State) (n : Nat) :
    (s.lineStart n).ifr = s.ifr ||| (if s.lineAt n = 144 then 1 else 0) |||
      (if (s.lineAt n = 144 ∧ s.video.stat.getLsbD 1 = true) ∨ (s.lineAt n < 144 ∧ s.video.stat.getLsbD 2 = true) ∨
          (s.lineAt n = s.video.lyc.toNat ∧ s.video.prevMatch = false ∧ s.video.stat.getLsbD 3 = true)
        then 2 else 0) := by
  obtain ⟨hline, -, -, hstat, hlyc⟩ := (s.lineEntry_frame (s.lineAt n)).timing
  rw [s.lineStart_eq, State.lineCompare_eq]
  simp only [hline, hstat, hlyc, s.lineEntry_prevMatch, s.lineEntry_ifr, or_ite_or, or_assoc]

/-- What a horizontal-blank start requests (R911). -/
theorem State.hblankStart_ifr (s : State) (n : Nat) :
    (s.hblankStart n).ifr = s.ifr ||| if s.video.stat.getLsbD 0 = true then 2 else 0 :=
  State.requestIf_ifr _ _ _

theorem State.lineStart_requests_vblank {s : State} {n : Nat} (h : s.lineAt n = 144) :
    (s.lineStart n).ifr.getLsbD 0 = true := by
  simp [s.lineStart_ifr, h]

theorem State.lineStart_requests_stat {s : State} {n : Nat}
    (h : (s.lineAt n = 144 ∧ s.video.stat.getLsbD 1 = true) ∨ (s.lineAt n < 144 ∧ s.video.stat.getLsbD 2 = true)) :
    (s.lineStart n).ifr.getLsbD 1 = true := by
  rw [s.lineStart_ifr, if_pos (h.imp_right .inl), BitVec.getLsbD_or]
  exact Bool.or_true _

theorem State.hblankStart_requests {s : State} (h : s.video.stat.getLsbD 0 = true) (n : Nat) :
    (s.hblankStart n).ifr.getLsbD 1 = true := by
  rw [s.hblankStart_ifr, if_pos h, BitVec.getLsbD_or]
  exact Bool.or_true _

/-- A request stays through every later event. -/
theorem VideoFrame.request_stays {s t : State} (h : VideoFrame s t) {k : Nat} (hk : s.ifr.getLsbD k = true) :
    t.ifr.getLsbD k = true := by
  obtain ⟨g, f, b, m, rfl⟩ := h
  rw [BitVec.getLsbD_or, hk, Bool.true_or]

/-- Every video event in the pumped span is taken, and what it requests stays requested: it suffices that the event requests it
from whatever the events before it made of the state. -/
theorem State.videoPump_requests {s : State} {t n k : Nat} (he : s.VideoEventAt n) (hc : s.lastPump < n) (hn : n ≤ t)
    (h : ∀ s' : State, s'.lineAt n = s.lineAt n → s'.dotAt n = s.dotAt n → s'.video.stat = s.video.stat →
      (s'.videoEvent n).ifr.getLsbD k = true) : (s.videoPump t).ifr.getLsbD k = true := by
  obtain ⟨s', hs, hpump⟩ := State.videoEvents_reach t n hn _ _ s he hc (Nat.le_refl _)
  obtain ⟨hline, hdot, -, hstat, -⟩ := hs.timing
  exact (hpump.trans (State.lineCompare_frame _ t)).request_stays (h s' (hline n) (hdot n) hstat)

/-- Without a video event in the span, `videoEvents` does nothing. -/
theorem State.videoEvents_of_none {s : State} {t cur : Nat} (h : ∀ n, cur < n → n ≤ t → ¬s.VideoEventAt n) (fuel : Nat) :
    State.videoEvents t fuel cur s = s := by
  cases fuel with
  | zero => rfl
  | succ fuel =>
    unfold State.videoEvents
    split
    · rfl
    · rename_i n hn
      obtain ⟨hlt, he⟩ := ((s.nextVideoEvent_isLeast cur).1 n hn).1
      exact if_neg fun hle => h n hlt hle he

/-- Settles O56: each event by the dot it comes at; the events of a span by `videoPump_requests`. -/
theorem videoInterrupts : Obligations.VideoInterrupts := by
  refine ⟨State.lineCompare_eq, fun s n _ => ⟨fun h => ?_, fun h _ => ?_, State.videoEvent_drawingStart⟩,
    fun s t n hf hc hn => ?span, fun s t h => ?none⟩
  · rw [State.videoEvent_lineStart h, s.lineStart_ifr]
  · rw [State.videoEvent_hblankStart h, s.hblankStart_ifr]
    cases s.video.stat.getLsbD 0 <;> simp
  case none => rw [State.videoPump, State.videoEvents_of_none h]
  case span =>
    have hl := State.lineAt_cast hf n
    have hd := s.dotAt_cast n
    refine ⟨fun hu => ?vblank, fun hu => ?stat⟩
    case vblank =>
      have hdot : s.dotAt n = 0 := by omega
      refine State.videoPump_requests ⟨hf, .inl hdot⟩ hc hn fun s' hline' hdot' _ => ?_
      rw [State.videoEvent_lineStart (hdot'.trans hdot)]
      exact State.lineStart_requests_vblank (by omega)
    case stat =>
      rw [← or_assoc] at hu
      obtain hu | ⟨hu, h252, hen⟩ := hu
      · have hdot : s.dotAt n = 0 := by omega
        refine State.videoPump_requests ⟨hf, .inl hdot⟩ hc hn fun s' hline' hdot' hstat' => ?_
        rw [State.videoEvent_lineStart (hdot'.trans hdot)]
        refine State.lineStart_requests_stat ?_
        rw [hline', hstat']
        exact hu.imp (fun ⟨h, hen⟩ => ⟨by omega, hen⟩) fun ⟨h, _, hen⟩ => ⟨by omega, hen⟩
      · have hdot : s.dotAt n = 252 := by omega
        refine State.videoPump_requests ⟨hf, .inr ⟨by omega, .inr hdot⟩⟩ hc hn fun s' _ hdot' hstat' => ?_
        rw [State.videoEvent_hblankStart (hdot'.trans hdot)]
        exact State.hblankStart_requests (hstat'.symm ▸ hen) n

end Sys2Proof.Machine
end

section
/-! Rendering (61_video_audio R911, R912, R916, R918 to R928): the line a horizontal blank renders, its sprites, its tile pixels and
its colors. -/

namespace Sys2Proof.Machine

/-! The framebuffers (R911, R912, R928). -/

theorem lookup_cons_eq_ite {α : Type} (k : Nat) (p : α) (l : List (Nat × α)) (y : Nat) :
    ((k, p) :: l).lookup y = if y = k then some p else l.lookup y := by
  by_cases h : y = k
  · simp [h]
  · rw [List.lookup_cons, beq_false_of_ne h, if_neg h]

/-- A line set in a framebuffer is found there, and every other line as before. -/
theorem lookup_putLine (ly : Nat) (p : List Rgb) (l : List (Nat × List Rgb)) (y : Nat) :
    (putLine ly p l).lookup y = if y = ly then some p else l.lookup y := by
  induction l with
  | nil => exact lookup_cons_eq_ite ly p [] y
  | cons c t ih =>
    obtain ⟨k, q⟩ := c
    unfold putLine
    split
    · exact lookup_cons_eq_ite ly p _ y
    · split
      · next h =>
        subst h
        simp only [lookup_cons_eq_ite]
        split <;> rfl
      · simp only [lookup_cons_eq_ite, ih]
        split_ifs
        · omega
        all_goals rfl

/-- A rendered line's pixel is the line's own, any other line's is as before. -/
theorem Video.pixel_renderLine (v : Video) (cfg : Config) (color : Bool) (ly x y : Nat) :
    (v.renderLine cfg color ly).back.pixel x y =
      if y = ly then (v.line cfg color ly).getD x (Config.initPixel v.back.buffer ly x) else v.back.pixel x y := by
  by_cases h : y = ly
  · subst h
    simp only [Framebuffer.pixel, Video.renderLine, lookup_putLine, if_true]
  · simp only [Framebuffer.pixel, Video.renderLine, lookup_putLine, if_neg h]

/-- With the LCD off a line is the lightest shade (R916). -/
theorem Video.line_off {v : Video} (h : v.lcdc.getLsbD 7 = false) (cfg : Config) (color : Bool) (ly : Nat) {x : Nat} (hx : x < 160)
    (d : Rgb) : (v.line cfg color ly).getD x d = lightestRgb cfg color := by
  simp only [Video.line, bitAt, h, Bool.false_eq_true, if_false, List.getD_eq_getElem?_getD, List.getElem?_replicate, if_pos hx,
    Option.getD_some]

/-- With the LCD on a line's pixels are `Video.pixel` (R919). -/
theorem Video.line_on {v : Video} (h : v.lcdc.getLsbD 7 = true) (cfg : Config) (color : Bool) (ly : Nat) {x : Nat} (hx : x < 160)
    (d : Rgb) : (v.line cfg color ly).getD x d = v.pixel cfg color (v.lineSprites cfg.spriteLimit ly) x ly := by
  simp only [Video.line, bitAt, h, if_true, List.getD_eq_getElem?_getD, List.getElem?_map, List.getElem?_range hx, Option.map_some,
    Option.getD_some]

/-- The video part of a horizontal-blank start is the rendered line (R911). -/
theorem State.hblankStart_video (s : State) (n : Nat) :
    (s.hblankStart n).video = s.video.renderLine s.cfg s.colorMode (s.lineAt n) := State.requestIf_video _ _ _

/-- At the start of line 144 the framebuffers change roles (R912). -/
theorem State.lineStart_swaps {s : State} {n : Nat} (h : s.lineAt n = 144) :
    (s.lineStart n).video.front = s.video.back ∧ (s.lineStart n).video.back = s.video.front := by
  have hentry : (s.lineEntry 144).video = s.video.swapBuffers := State.requestIf_video _ _ _
  rw [s.lineStart_eq, h, State.lineCompare_eq]
  dsimp only
  rw [hentry]
  exact ⟨rfl, rfl⟩

/-! The sprite pixel and its priority (R923 to R925). -/

/-- No sprite shows where every one of the line is transparent. -/
theorem Video.spritePixel_eq_none {v : Video} {color : Bool} {x ly : Nat} {l : List Sprite}
    (h : ∀ q ∈ l, v.spriteIndex color q x ly = 0) : v.spritePixel color x ly l = none := by
  induction l with
  | nil => rfl
  | cons q t ih =>
    obtain ⟨hq, ht⟩ := List.forall_mem_cons.1 h
    simp only [Video.spritePixel, hq, if_true, ih ht]

/-- The first sprite of the line that is not transparent shows (R923). -/
theorem Video.spritePixel_eq_some {v : Video} {color : Bool} {x ly : Nat} {before : List Sprite} {q : Sprite}
    (h : ∀ p ∈ before, v.spriteIndex color p x ly = 0) (hq : v.spriteIndex color q x ly ≠ 0) (rest : List Sprite) :
    v.spritePixel color x ly (before ++ q :: rest) = some (v.spriteIndex color q x ly, q.attr) := by
  induction before with
  | nil => simp only [List.nil_append, Video.spritePixel, if_neg hq]
  | cons p t ih =>
    obtain ⟨hp, ht⟩ := List.forall_mem_cons.1 h
    simp only [List.cons_append, Video.spritePixel, hp, if_true, ih ht]

/-- The priority tables of both modes (R924, R925). -/
theorem Video.spriteWins_iff (v : Video) (color : Bool) (bg : BgPixel) (attr : Byte) :
    v.spriteWins color bg attr = true ↔ bg.index = 0 ∨ (color = true ∧ v.lcdc.getLsbD 0 = false) ∨
      (attr.getLsbD 7 = false ∧ (color = true → bg.attr.getLsbD 7 = false)) := by
  cases color
  · simp [Video.spriteWins, bitAt, or_comm]
  · simp [Video.spriteWins, bitAt]
    tauto

/-- A pixel no sprite shows at is the background's or window's. -/
theorem Video.pixel_of_transparent {v : Video} {color : Bool} {x ly : Nat} {l : List Sprite}
    (h : ∀ q ∈ l, v.spriteIndex color q x ly = 0) (cfg : Config) :
    v.pixel cfg color l x ly = v.bgRgb cfg color (v.bgPixel color x ly) := by
  simp only [Video.pixel, Video.spritePixel_eq_none h]

/-- Else it is the first sprite's that shows, or the background's, by the priority tables. -/
theorem Video.pixel_of_sprite {v : Video} {color : Bool} {x ly : Nat} {before : List Sprite} {q : Sprite}
    (h : ∀ p ∈ before, v.spriteIndex color p x ly = 0) (hq : v.spriteIndex color q x ly ≠ 0) (cfg : Config)
    (rest : List Sprite) :
    v.pixel cfg color (before ++ q :: rest) x ly =
      if (v.bgPixel color x ly).index = 0 ∨ (color = true ∧ v.lcdc.getLsbD 0 = false) ∨
          (q.attr.getLsbD 7 = false ∧ (color = true → (v.bgPixel color x ly).attr.getLsbD 7 = false)) then
        v.objRgb cfg color (v.spriteIndex color q x ly) q.attr
      else v.bgRgb cfg color (v.bgPixel color x ly) := by
  simp only [Video.pixel, Video.spritePixel_eq_some h hq, Video.spriteWins_iff]

/-! The sprites of a line (R922). -/

theorem Video.lineSprites_off {v : Video} (h : v.lcdc.getLsbD 1 = false) (limit : Option Nat) (ly : Nat) :
    v.lineSprites limit ly = [] := by
  simp only [Video.lineSprites, bitAt, h, Bool.false_eq_true, if_false]

theorem Video.lineSprites_on {v : Video} (h : v.lcdc.getLsbD 1 = true) (ly : Nat) :
    v.lineSprites none ly = ((List.range 40).map v.spriteCache).filter fun q =>
      decide (q.y ≤ ly + 16) && decide (ly + 16 < q.y + v.spriteHeight) := by
  simp only [Video.lineSprites, bitAt, h, if_true]

theorem Video.lineSprites_limit {v : Video} (h : v.lcdc.getLsbD 1 = true) (k ly : Nat) :
    v.lineSprites (some k) ly = (v.lineSprites none ly).take k := by
  simp only [Video.lineSprites, bitAt, h, if_true]

/-- The sprites of a line are the OAM entries that reach over it. -/
theorem Video.mem_lineSprites {v : Video} (h : v.lcdc.getLsbD 1 = true) (ly : Nat) (q : Sprite) :
    q ∈ v.lineSprites none ly ↔
      ∃ i, i < 40 ∧ q = v.spriteCache i ∧ q.y ≤ ly + 16 ∧ ly + 16 < q.y + v.spriteHeight := by
  simp only [Video.lineSprites_on h, List.mem_filter, List.mem_map, List.mem_range, Bool.and_eq_true, decide_eq_true_eq]
  constructor
  · rintro ⟨⟨i, hi, rfl⟩, hy⟩
    exact ⟨i, hi, rfl, hy⟩
  · rintro ⟨i, hi, rfl, hy⟩
    exact ⟨⟨i, hi, rfl⟩, hy⟩

/-! Tile pixels (R920, R921, R923). -/

theorem bitNat_bitAt {n : Nat} (b : BitVec n) (i : Nat) : bitNat (bitAt b i) = b.toNat / 2 ^ i % 2 := by
  rw [bitAt, BitVec.getLsbD, Nat.testBit_eq_decide_div_mod_eq, bitNat]
  split <;> simp_all

/-- A tile pixel: the bit of the high plane above that of the low plane (R920). -/
theorem Video.tilePixel_eq (v : Video) (bank tile row col : Nat) :
    v.tilePixel bank tile row col = 2 * ((v.vramByte bank (tile + 2 * row + 1)).toNat / 2 ^ (7 - col) % 2) +
      (v.vramByte bank (tile + 2 * row)).toNat / 2 ^ (7 - col) % 2 := by
  rw [Video.tilePixel, bitNat_bitAt, bitNat_bitAt]

/-- The tile numbers counted from 9000 are signed (R920). -/
theorem signedTile_eq (n : Byte) :
    (0x9000 + 16 * n.toInt).toNat = if n.toNat < 128 then 0x9000 + 16 * n.toNat else 0x8000 + 16 * n.toNat := by
  have hlt := n.isLt
  rw [BitVec.toInt_eq_toNat_cond]
  split_ifs <;> omega

theorem Video.windowAt_iff (v : Video) (x ly : Nat) :
    v.windowAt x ly = true ↔ v.lcdc.getLsbD 5 = true ∧ v.wy.toNat ≤ ly ∧ v.wx.toNat ≤ x + 7 := by
  simp only [Video.windowAt, bitAt, Bool.and_eq_true, decide_eq_true_eq, and_assoc]

/-- A sprite's tiles are of bank 1 in color mode only (R923). -/
theorem spriteBank_eq (color : Bool) (attr : Byte) :
    (if color = true then bitNat (bitAt attr 3) else 0) = if color = true ∧ attr.getLsbD 3 = true then 1 else 0 := by
  cases color <;> simp [bitNat, bitAt]

/-- The pair of tiles of a tall sprite starts at the even one (R923). -/
theorem toNat_and_FE (t : Byte) : (t &&& 0xFE).toNat = t.toNat / 2 * 2 := by
  revert t
  decide +kernel

/-- A sprite that does not cover x shows nothing there (R923). -/
theorem Video.spriteIndex_uncovered {v : Video} {q : Sprite} {x : Nat} (h : ¬(q.x ≤ x + 8 ∧ x + 8 < q.x + 8)) (color : Bool)
    (ly : Nat) : v.spriteIndex color q x ly = 0 := by
  rw [← decide_eq_true_eq (p := q.x ≤ x + 8), ← decide_eq_true_eq (p := x + 8 < q.x + 8), ← Bool.and_eq_true] at h
  exact if_neg h

/-! Palettes (R926, R927). -/

/-- A two-bit shade picks one of the four (R926). -/
theorem dmgRgb_eq (cfg : Config) {k : Nat} (h : k < 4) :
    dmgRgb cfg k = [cfg.dmgShade0, cfg.dmgShade1, cfg.dmgShade2, cfg.dmgShade3].getD k cfg.dmgShade0 := by
  interval_cases k <;> rfl

theorem dmgRgb_shadeOf (cfg : Config) (palette : Byte) (i : Nat) :
    dmgRgb cfg (shadeOf palette i) =
      [cfg.dmgShade0, cfg.dmgShade1, cfg.dmgShade2, cfg.dmgShade3].getD (palette.toNat / 4 ^ i % 4) cfg.dmgShade0 :=
  dmgRgb_eq cfg (Nat.mod_lt _ (by decide))

/-- A tile's or sprite's palette number is three bits (R920, R923). -/
theorem toNat_palette (attr : Byte) : (attr.extractLsb' 0 3).toNat = attr.toNat % 8 := by
  rw [BitVec.extractLsb'_toNat, Nat.shiftRight_zero]

/-- The default of `CGB_RGB` (R927). -/
theorem cgbRgb_default {cfg : Config} (h : cfg.cgbRgb = []) (w : Nat) :
    cgbRgb cfg w =
      ⟨BitVec.ofNat 8 (w % 32 * 255 / 31), BitVec.ofNat 8 (w / 32 % 32 * 255 / 31),
        BitVec.ofNat 8 (w / 1024 % 32 * 255 / 31)⟩ := by
  simp only [cgbRgb, h, lookupD]

/-- Settles O55: a pixel through the rendered line, the sprites by `spritePixel`, the tile pixels by their planes. -/
theorem rendering : Obligations.Rendering := by
  refine ⟨fun s n x hd hl hx => ?line, fun s n x y hd hl => ?swap, fun v limit ly => ?sprites, fun v color x ly _ _ => ?tiles,
    fun v cfg p i attr => ?palettes⟩
  case line =>
    intro v ly bg u
    have hu : u = v.renderLine s.cfg s.colorMode ly := (congrArg _ (State.videoEvent_hblankStart hd)).trans (s.hblankStart_video n)
    have hother (y : Nat) (hy : y ≠ ly) : u.back.pixel x y = v.back.pixel x y := by
      rw [hu, Video.pixel_renderLine, if_neg hy]
    have hline : u.back.pixel x ly = (v.line s.cfg s.colorMode ly).getD x (Config.initPixel v.back.buffer ly x) := by
      rw [hu, Video.pixel_renderLine, if_pos rfl]
    refine ⟨hu ▸ rfl, hother, fun hoff => ?_, fun hon => ⟨fun hnone => ?_, fun before rest q hq hb hi => ?_⟩⟩
    · rw [hline, Video.line_off hoff _ _ _ hx]
      rfl
    · rw [hline, Video.line_on hon _ _ _ hx, Video.pixel_of_transparent hnone]
    · rw [hline, Video.line_on hon _ _ _ hx, hq, Video.pixel_of_sprite hb hi]
  case swap =>
    obtain ⟨hfront, hback⟩ := State.lineStart_swaps hl
    rw [State.videoEvent_lineStart hd, State.framebufferPixel, hfront]
    exact ⟨rfl, hback, rfl⟩
  case sprites =>
    refine ⟨fun h => Video.lineSprites_off h limit ly,
      fun h => ⟨Video.mem_lineSprites h ly, ?_, fun k => Video.lineSprites_limit h k ly⟩, fun i => ⟨rfl, rfl, rfl, rfl⟩⟩
    rw [Video.lineSprites_on h]
    exact List.filter_sublist
  case tiles =>
    intro byte index window mx my m n attr tile row col
    have hindex (bank tile row col : Nat) : index bank tile row col = v.tilePixel bank tile row col :=
      (v.tilePixel_eq bank tile row col).symm
    refine ⟨fun ⟨hc, hb⟩ => ?blank, fun h => ?background, fun q => ?sprite⟩
    case blank => simp only [Video.bgPixel, bitAt, hc, hb, Bool.not_false, Bool.and_self, if_true]
    case background =>
      have hc : ¬(!color && !bitAt v.lcdc 0) = true := by simpa [bitAt] using h
      rw [Video.bgPixel, if_neg hc, hindex]
      by_cases hw : window
      · rw [if_pos ((v.windowAt_iff x ly).2 hw)]
        simp only [Video.mapPixel, signedTile_eq, tile, row, col, attr, n, m, mx, my, if_pos hw]
        rfl
      · rw [if_neg (mt (v.windowAt_iff x ly).1 hw)]
        simp only [Video.mapPixel, signedTile_eq, tile, row, col, attr, n, m, mx, my, if_neg hw]
        rfl
    case sprite =>
      intro tall r0 r c0 c k
      refine ⟨fun hx => Video.spriteIndex_uncovered hx color ly, fun hx1 hx2 => ?_⟩
      have hcovers : (decide (q.x ≤ x + 8) && decide (x + 8 < q.x + 8)) = true := by simp [hx1, hx2]
      rw [Video.spriteIndex, if_pos hcovers, hindex, spriteBank_eq]
      cases htall : tall with
      | true =>
        have hheight : v.spriteHeight = 16 := if_pos htall
        simp only [hheight, toNat_and_FE, bitAt, k, c, c0, r, r0, htall, if_true, Nat.reduceSub, Nat.reduceEqDiff, if_false]
        rfl
      | false =>
        have hheight : v.spriteHeight = 8 := if_neg (Bool.eq_false_iff.1 htall)
        simp only [hheight, bitAt, k, c, c0, r, r0, htall, Bool.false_eq_true, if_false, if_true, Nat.reduceSub]
        rfl
  case palettes =>
    exact ⟨dmgRgb_shadeOf cfg _ _, dmgRgb_shadeOf cfg _ _, congrArg (fun k => cgbRgb cfg (paletteWord _ k _)) (toNat_palette _),
      congrArg (fun k => cgbRgb cfg (paletteWord _ k _)) (toNat_palette _), cgbRgb_default⟩

end Sys2Proof.Machine
end

section
/-! Silence (61_video_audio R955, R958, R962, R963). -/

namespace Sys2Proof.Machine

section Silent
variable {u : Audio}

theorem Audio.silent_of_powerOff (h : u.power = false) (c : Channel) (nrx4 : Byte) : u.silent c nrx4 = true := by
  simp [Audio.silent, h]

theorem Audio.silent_of_off {c : Channel} (h : c.on = false) (nrx4 : Byte) : u.silent c nrx4 = true := by
  simp [Audio.silent, h]

/-- An enabled length counter that has run out silences its channel (R958). -/
theorem Audio.silent_of_expired {c : Channel} {nrx4 : Byte} (he : nrx4.getLsbD 6 = true) (hl : c.length = 0) :
    u.silent c nrx4 = true := by
  simp [Audio.silent, lengthEnable, bitAt, he, hl]

theorem Audio.amplitude1_of_silent (h : u.silent u.ch1 u.nr14 = true) (t : Nat) : u.amplitude1 t = 0 := if_pos h

theorem Audio.amplitude2_of_silent (h : u.silent u.ch2 u.nr24 = true) (t : Nat) : u.amplitude2 t = 0 := if_pos h

theorem Audio.amplitude3_of_silent (h : u.silent u.ch3 u.nr34 = true) (t : Nat) : u.amplitude3 t = 0 := by
  simp [Audio.amplitude3, h]

theorem Audio.amplitude4_of_silent (h : u.silent u.ch4 u.nr44 = true) : u.amplitude4 = 0 := if_pos h

end Silent

/-- A pulse of volume 0 is silent (R955). -/
theorem pulseAmplitude_zero (nrx1 : Byte) (f trig t : Nat) : pulseAmplitude nrx1 f trig 0 t = 0 := Nat.mul_zero _

/-- Nothing is let through of four zero amplitudes. -/
theorem sideSum_zero (nr50 nr51 : Byte) (shift : Nat) : sideSum ⟨0, 0, 0, 0, nr50, nr51⟩ shift = 0 := rfl

theorem audioMix_zero (cfg : Config) (nr50 nr51 : Byte) : audioMix cfg ⟨0, 0, 0, 0, nr50, nr51⟩ = (0, 0) := by
  simp only [audioMix, sideSum_zero, and_self, if_true]

/-- Settles O58: each cause of silence makes its channel `silent`; the mixer's first branch is silence. -/
theorem audioSilence : Obligations.AudioSilence := by
  intro u cfg t
  refine ⟨fun hp => ?power, fun h => ?_, fun h => ?_, fun h => ?_, fun h => ?_, fun he hl => ?_, fun he hl => ?_,
    fun he hl => ?_, fun he hl => ?_, fun h => ?dac, fun h => ?volume1, fun h => ?volume2, fun nr50 nr51 => ?mix⟩
  case power =>
    have hs := Audio.silent_of_powerOff hp
    exact ⟨Audio.amplitude1_of_silent (hs _ _) t, Audio.amplitude2_of_silent (hs _ _) t,
      Audio.amplitude3_of_silent (hs _ _) t, Audio.amplitude4_of_silent (hs _ _)⟩
  case dac => rw [Audio.amplitude3, bitAt, h, Bool.not_false, Bool.or_true, if_pos rfl]
  case volume1 => rw [Audio.amplitude1, h, pulseAmplitude_zero, ite_self]
  case volume2 => rw [Audio.amplitude2, h, pulseAmplitude_zero, ite_self]
  case mix => exact audioMix_zero cfg nr50 nr51
  · exact Audio.amplitude1_of_silent (Audio.silent_of_off h _) t
  · exact Audio.amplitude2_of_silent (Audio.silent_of_off h _) t
  · exact Audio.amplitude3_of_silent (Audio.silent_of_off h _) t
  · exact Audio.amplitude4_of_silent (Audio.silent_of_off h _)
  · exact Audio.amplitude1_of_silent (Audio.silent_of_expired he hl) t
  · exact Audio.amplitude2_of_silent (Audio.silent_of_expired he hl) t
  · exact Audio.amplitude3_of_silent (Audio.silent_of_expired he hl) t
  · exact Audio.amplitude4_of_silent (Audio.silent_of_expired he hl)

end Sys2Proof.Machine
end

section
/-! The registers that trigger a channel, and NR52 (61_video_audio R961, R964, R965). -/

namespace Sys2Proof.Machine

/-- The frequency bits survive the mask of the listed bits (R951). -/
theorem extractLsb'_and_listed (v : Byte) : (v &&& 0x47).extractLsb' 0 3 = v.extractLsb' 0 3 := by
  rw [BitVec.extractLsb'_and]
  exact BitVec.and_allOnes

section Write
variable (u : Audio) (v : Byte) (t : Nat)

/-- A write of NR14 stores its bits and, with bit 7 set, triggers channel 1 (R961). -/
theorem Audio.write_nr14 :
    u.write .nr14 v t = { u with
      nr14 := v &&& 0x47
      ch1 := if v.getLsbD 7 then u.ch1.trigger t 64 else u.ch1
      env1 := if v.getLsbD 7 then envelopeStart u.nr12 else u.env1
      sweep := if v.getLsbD 7 then ⟨v.extractLsb' 0 3 ++ u.nr13, 0⟩ else u.sweep } := by
  cases h : v.getLsbD 7 with
  | false => simp only [Audio.write, bitAt, h, Bool.false_eq_true, if_false]
  | true => simp only [Audio.write, bitAt, h, Audio.trigger1, freqOf, extractLsb'_and_listed, if_true]

/-- A write of NR24 stores its bits and, with bit 7 set, triggers channel 2 (R961). -/
theorem Audio.write_nr24 :
    u.write .nr24 v t = { u with
      nr24 := v &&& 0x47
      ch2 := if v.getLsbD 7 then u.ch2.trigger t 64 else u.ch2
      env2 := if v.getLsbD 7 then envelopeStart u.nr22 else u.env2 } := by
  cases h : v.getLsbD 7 with
  | false => simp only [Audio.write, bitAt, h, Bool.false_eq_true, if_false]
  | true => simp only [Audio.write, bitAt, h, Audio.trigger2, if_true]

/-- A write of NR34 stores its bits and, with bit 7 set, triggers channel 3 (R961). -/
theorem Audio.write_nr34 :
    u.write .nr34 v t = { u with
      nr34 := v &&& 0x47
      ch3 := if v.getLsbD 7 then u.ch3.trigger t 256 else u.ch3 } := by
  cases h : v.getLsbD 7 with
  | false => simp only [Audio.write, bitAt, h, Bool.false_eq_true, if_false]
  | true => simp only [Audio.write, bitAt, h, Audio.trigger3, if_true]

/-- A write of NR44 stores its bit and, with bit 7 set, triggers channel 4 (R961). -/
theorem Audio.write_nr44 :
    u.write .nr44 v t = { u with
      nr44 := v &&& 0x40
      ch4 := if v.getLsbD 7 then u.ch4.trigger t 64 else u.ch4
      env4 := if v.getLsbD 7 then envelopeStart u.nr42 else u.env4
      noise := if v.getLsbD 7 then ⟨0x7FFF, 0⟩ else u.noise } := by
  cases h : v.getLsbD 7 with
  | false => simp only [Audio.write, bitAt, h, Bool.false_eq_true, if_false]
  | true => simp only [Audio.write, bitAt, h, Audio.trigger4, if_true]

end Write

/-- NR52 bit by bit (R964). -/
theorem Audio.getLsbD_nr52 (u : Audio) (k : Nat) :
    u.nr52.getLsbD k = ((u.power && decide (7 = k)) || (u.ch4.on && decide (3 = k)) || (u.ch3.on && decide (2 = k)) ||
      (u.ch2.on && decide (1 = k)) || (u.ch1.on && decide (0 = k))) := by
  simp only [Audio.nr52, BitVec.getLsbD_or]
  rw [getLsbD_bitByte (by decide), getLsbD_bitByte (by decide), getLsbD_bitByte (by decide), getLsbD_bitByte (by decide),
    getLsbD_bitByte (by decide)]

/-- Settles O59: each address by its register, each trigger by its write. -/
theorem audioControl : Obligations.AudioControl := by
  intro s v hw
  have nr14 : s.target 0xFF14 = .io (.audio .nr14) := s.target_reg (by decide) (by decide)
  have nr24 : s.target 0xFF19 = .io (.audio .nr24) := s.target_reg (by decide) (by decide)
  have nr34 : s.target 0xFF1E = .io (.audio .nr34) := s.target_reg (by decide) (by decide)
  have nr44 : s.target 0xFF23 = .io (.audio .nr44) := s.target_reg (by decide) (by decide)
  have nr52 : s.target 0xFF26 = .io (.audio .nr52) := s.target_reg (by decide) (by decide)
  have put (r : AudioReg) {a : Word} {w : Audio} (ht : s.target a = .io (.audio r)) (hr : s.audio.write r v s.cycles = w) :
      ∃ t, s.memWrite a v = .ok t ∧ t = { s with draw := t.draw, audio := w } := by
    subst hr
    exact ⟨_, State.memWrite_reg hw ht v, rfl⟩
  refine ⟨put _ nr14 (Audio.write_nr14 _ _ _), put _ nr24 (Audio.write_nr24 _ _ _), put _ nr34 (Audio.write_nr34 _ _ _),
    put _ nr44 (Audio.write_nr44 _ _ _), ⟨_, State.memRead_reg hw nr52, ?_⟩, put _ nr52 rfl⟩
  have shown {k : Nat} (hk : (0x70 : Byte).getLsbD k = false) :
      (s.ioRead (Config.freeByte s.draw (0xFF26 : Word).toNat) (.audio .nr52)).getLsbD k = s.audio.nr52.getLsbD k :=
    getLsbD_blend_of_unmasked hk
  and_intros <;> rw [shown (by decide), Audio.getLsbD_nr52] <;> simp

end Sys2Proof.Machine
end

section
/-! The audio timers' edges (61_video_audio R953): a pump takes them in time order until every timer stands beyond
its cycle value. -/

namespace Sys2Proof.Machine

/-- What a pump does, by induction on the edges due: it ends where none is, and takes the next one else. -/
theorem Audio.pump_induction {cfg : Config} {t : Nat} {P : Audio → Audio → Prop}
    (done : ∀ u : Audio, t < u.nextEdge → P u u)
    (edge : ∀ u w : Audio, u.nextEdge ≤ t → P (u.edge cfg) w → P u w) (u : Audio) :
    P u (u.pump cfg t) := by
  induction hd : Audio.due t u using Nat.strong_induction_on generalizing u with
  | _ d ih =>
    rw [u.pump_eq]
    split
    · next hle => exact edge u _ hle (ih _ (hd ▸ u.edge_due cfg t hle) _ rfl)
    · next hgt => exact done u (Nat.lt_of_not_le hgt)

/-- Each timer of `w` is some number of its periods after that of `u`. -/
structure Audio.EdgesLater (cfg : Config) (u w : Audio) : Prop where
  sample : ∃ n, w.nextSample = u.nextSample + n * samplePeriod cfg
  length : ∃ n, w.nextLength = u.nextLength + n * 16384
  envelope : ∃ n, w.nextEnvelope = u.nextEnvelope + n * 65536
  sweep : ∃ n, w.nextSweep = u.nextSweep + n * 32768

theorem Audio.EdgesLater.refl (cfg : Config) (u : Audio) : Audio.EdgesLater cfg u u :=
  ⟨⟨0, by simp⟩, ⟨0, by simp⟩, ⟨0, by simp⟩, ⟨0, by simp⟩⟩

/-- Periods after periods. -/
theorem exists_later {a b c p : Nat} (h : ∃ n, b = a + n * p) (k : ∃ n, c = b + n * p) : ∃ n, c = a + n * p := by
  obtain ⟨n, rfl⟩ := h
  obtain ⟨m, rfl⟩ := k
  exact ⟨n + m, by ring⟩

theorem Audio.EdgesLater.trans {cfg : Config} {u v w : Audio} (h : Audio.EdgesLater cfg u v) (k : Audio.EdgesLater cfg v w) :
    Audio.EdgesLater cfg u w :=
  ⟨exists_later h.sample k.sample, exists_later h.length k.length, exists_later h.envelope k.envelope,
    exists_later h.sweep k.sweep⟩

theorem Audio.edgesLater_edge (u : Audio) (cfg : Config) : Audio.EdgesLater cfg u (u.edge cfg) := by
  obtain ⟨-, h1, h2, h3, h4⟩ | ⟨-, h1, h2, h3, h4⟩ | ⟨-, h1, h2, h3, h4⟩ | ⟨-, h1, h2, h3, h4⟩ := u.edge_next cfg
  · exact ⟨⟨1, by simpa using h1⟩, ⟨0, by simpa using h2⟩, ⟨0, by simpa using h3⟩, ⟨0, by simpa using h4⟩⟩
  · exact ⟨⟨0, by simpa using h1⟩, ⟨1, by simpa using h2⟩, ⟨0, by simpa using h3⟩, ⟨0, by simpa using h4⟩⟩
  · exact ⟨⟨0, by simpa using h1⟩, ⟨0, by simpa using h2⟩, ⟨1, by simpa using h3⟩, ⟨0, by simpa using h4⟩⟩
  · exact ⟨⟨0, by simpa using h1⟩, ⟨0, by simpa using h2⟩, ⟨0, by simpa using h3⟩, ⟨1, by simpa using h4⟩⟩

theorem Audio.edgesLater_pump (u : Audio) (cfg : Config) (t : Nat) : Audio.EdgesLater cfg u (u.pump cfg t) :=
  Audio.pump_induction (P := Audio.EdgesLater cfg) (fun u _ => .refl cfg u) (fun u _ _ h => (u.edgesLater_edge cfg).trans h) u

/-- After a pump no edge is due. -/
theorem Audio.lt_nextEdge_pump (u : Audio) (cfg : Config) (t : Nat) : t < (u.pump cfg t).nextEdge :=
  Audio.pump_induction (cfg := cfg) (P := fun _ w => t < w.nextEdge) (fun _ h => h) (fun _ _ _ h => h) u

theorem Audio.lt_nextEdge_iff (u : Audio) (t : Nat) :
    t < u.nextEdge ↔ t < u.nextSample ∧ t < u.nextLength ∧ t < u.nextEnvelope ∧ t < u.nextSweep := by
  simp only [Audio.nextEdge, lt_min_iff, and_assoc]

/-! The next edge (R953): at one cycle value in the order sample-output, length, envelope, sweep. -/

section Edge
variable {u : Audio} (cfg : Config)

theorem Audio.edge_of_sample (hl : u.nextSample ≤ u.nextLength) (he : u.nextSample ≤ u.nextEnvelope)
    (hs : u.nextSample ≤ u.nextSweep) :
    u.nextEdge = u.nextSample ∧
      u.edge cfg = { u.sampleEdge cfg u.nextSample with nextSample := u.nextSample + samplePeriod cfg } := by
  have h : u.nextEdge = u.nextSample := by
    unfold Audio.nextEdge
    omega
  simp only [Audio.edge, h, if_true, and_self]

theorem Audio.edge_of_length (hl : u.nextLength < u.nextSample) (he : u.nextLength ≤ u.nextEnvelope)
    (hs : u.nextLength ≤ u.nextSweep) :
    u.nextEdge = u.nextLength ∧ u.edge cfg = { u.lengthEdge with nextLength := u.nextLength + 16384 } := by
  have h : u.nextEdge = u.nextLength := by
    unfold Audio.nextEdge
    omega
  simp only [Audio.edge, h, hl.ne', if_true, if_false, and_self]

theorem Audio.edge_of_envelope (hl : u.nextEnvelope < u.nextSample) (he : u.nextEnvelope < u.nextLength)
    (hs : u.nextEnvelope ≤ u.nextSweep) :
    u.nextEdge = u.nextEnvelope ∧ u.edge cfg = { u.envelopeEdge with nextEnvelope := u.nextEnvelope + 65536 } := by
  have h : u.nextEdge = u.nextEnvelope := by
    unfold Audio.nextEdge
    omega
  simp only [Audio.edge, h, hl.ne', he.ne', if_true, if_false, and_self]

theorem Audio.edge_of_sweep (hl : u.nextSweep < u.nextSample) (he : u.nextSweep < u.nextLength)
    (hs : u.nextSweep < u.nextEnvelope) :
    u.nextEdge = u.nextSweep ∧ u.edge cfg = { u.sweepEdge with nextSweep := u.nextSweep + 32768 } := by
  have h : u.nextEdge = u.nextSweep := by
    unfold Audio.nextEdge
    omega
  simp only [Audio.edge, h, hl.ne', he.ne', hs.ne', if_false, and_self]

/-- A pump with an edge due goes on from it. -/
theorem Audio.pump_of_edge {n t : Nat} {w : Audio} (h : u.nextEdge = n ∧ u.edge cfg = w) (hn : n ≤ t) :
    u.pump cfg t = w.pump cfg t := by
  obtain ⟨rfl, rfl⟩ := h
  rw [u.pump_eq, if_pos hn]

end Edge

end Sys2Proof.Machine
end

section
/-! What each edge does (61_video_audio R956 to R958, R960), the channel amplitudes (R955, R959, R960) and the mixer (R963). -/

namespace Sys2Proof.Machine

/-- The low three bits of a register (R951). -/
theorem toNat_and_7 (v : Byte) : (v &&& 7).toNat = v.toNat % 8 := by
  rw [BitVec.toNat_and]
  exact Nat.and_two_pow_sub_one_eq_mod v.toNat 3

/-- A length edge counts an enabled counter down, to no less than 0 (R958). -/
theorem Channel.lengthEdge_eq (c : Channel) (nrx4 : Byte) :
    c.lengthEdge nrx4 = { c with length := if nrx4.getLsbD 6 then c.length - 1 else c.length } := by
  unfold Channel.lengthEdge lengthEnable bitAt
  cases nrx4.getLsbD 6 with
  | false => rfl
  | true =>
    by_cases h : 0 < c.length
    · simp [h]
    · obtain ⟨on, length, trig⟩ := c
      simp_all

/-- An envelope edge moves the volume when its period is full (R956). -/
theorem Envelope.edge_eq (e : Envelope) (nrx2 : Byte) :
    e.edge nrx2 =
      if nrx2.toNat % 8 = 0 then e
      else if e.counter + 1 < nrx2.toNat % 8 then { e with counter := e.counter + 1 }
      else ⟨if nrx2.getLsbD 3 then (if e.volume = 15 then 15 else e.volume + 1)
        else (if e.volume = 0 then 0 else e.volume - 1), 0⟩ := by
  have hup : (if e.volume.toNat < 15 then e.volume + 1 else e.volume) = if e.volume = 15 then 15 else e.volume + 1 := by
    generalize e.volume = x
    revert x
    decide
  have hdown : (if 0 < e.volume.toNat then e.volume - 1 else e.volume) = if e.volume = 0 then 0 else e.volume - 1 := by
    generalize e.volume = x
    revert x
    decide
  simp only [Envelope.edge, toNat_and_7, hup, hdown, ← Nat.not_lt, bitAt]
  split_ifs <;> rfl

/-- A sweep edge moves channel 1's frequency when its period is full (R957). -/
theorem Audio.sweepEdge_eq (u : Audio) :
    u.sweepEdge = { u with
      sweep :=
        if u.nr10.toNat / 16 % 8 = 0 ∨ u.nr10.toNat % 8 = 0 then u.sweep
        else if u.sweep.counter + 1 < u.nr10.toNat / 16 % 8 then { u.sweep with counter := u.sweep.counter + 1 }
        else ⟨BitVec.ofNat 11 (sweptFreq u.sweep.freq.toNat u.nr10), 0⟩ } := by
  simp only [Audio.sweepEdge, toNat_and_7, ← Nat.not_lt]
  split_ifs <;> rfl

theorem sweptFreq_eq (f : Nat) (nr10 : Byte) :
    sweptFreq f nr10 =
      if nr10.getLsbD 3 then f - f / 2 ^ (nr10.toNat % 8) else min (f + f / 2 ^ (nr10.toNat % 8)) 2047 := by
  simp only [sweptFreq, toNat_and_7, bitAt]

/-- The clocks of the shift register are iterations of one (R960). -/
theorem lfsrClocks_eq_iterate (narrow : Bool) (n : Nat) (l : BitVec 15) : lfsrClocks narrow n l = (lfsrClock narrow)^[n] l := by
  induction n generalizing l with
  | zero => rfl
  | succ n ih => exact ih _

/-- `P_n` (R960). -/
theorem noisePeriod_eq (nr43 : Byte) :
    noisePeriod nr43 = ([8, 16, 32, 48, 64, 80, 96, 112] : List Nat).getD (nr43.toNat % 8) 0 * 2 ^ (nr43.toNat / 16) := by
  have h (k : Nat) (hk : k < 8) : ([8, 16, 32, 48, 64, 80, 96, 112] : List Nat).getD k 8 =
      ([8, 16, 32, 48, 64, 80, 96, 112] : List Nat).getD k 0 := by
    revert k
    decide
  rw [noisePeriod, toNat_and_7, h _ (Nat.mod_lt _ (by decide))]

theorem getLsbD_ite_zero {n : Nat} (b : Bool) (m : BitVec n) (k : Nat) : (if b then m else 0).getLsbD k = (b && m.getLsbD k) := by
  cases b <;> simp

/-- One clock of the shift register, bit by bit (R960). -/
theorem getLsbD_lfsrClock (narrow : Bool) (l : BitVec 15) {k : Nat} (hk : k < 15) :
    (lfsrClock narrow l).getLsbD k =
      if k = 14 ∨ (narrow = true ∧ k = 6) then l.getLsbD 0 ^^ l.getLsbD 1 else l.getLsbD (k + 1) := by
  have hmask : ∀ k < 15, (0x4000 : BitVec 15).getLsbD k = decide (k = 14) ∧ (0x40 : BitVec 15).getLsbD k = decide (k = 6) := by
    decide
  obtain ⟨h14, h6⟩ := hmask k hk
  have hwide (x : Bool) : ((l >>> 1) ||| (if x then (0x4000 : BitVec 15) else 0)).getLsbD k =
      if k = 14 then x else l.getLsbD (k + 1) := by
    rw [BitVec.getLsbD_or, getLsbD_ite_zero, h14, BitVec.getLsbD_ushiftRight, Nat.add_comm]
    split
    · next h =>
      subst h
      simp
    · next h => simp [h]
  show _ = if _ then (bitAt l 0 ^^ bitAt l 1) else _
  simp only [lfsrClock]
  generalize (bitAt l 0 ^^ bitAt l 1) = x
  cases narrow with
  | false => simpa using hwide x
  | true =>
    rw [if_pos rfl, BitVec.getLsbD_or, BitVec.getLsbD_and, BitVec.getLsbD_not, getLsbD_ite_zero, hwide, h6]
    by_cases hk6 : k = 6
    · simp [hk6]
    · simp [hk6, hk]

/-! The amplitude of a channel that sounds (R954, R955, R959, R960). -/

/-- A channel with power that is on, and whose length counter has not run out, is not silent (R958, R962). -/
theorem Audio.not_silent {u : Audio} {c : Channel} {nrx4 : Byte} (hp : u.power = true)
    (hc : c.on = true ∧ (nrx4.getLsbD 6 = true → c.length ≠ 0)) : ¬u.silent c nrx4 = true := by
  simpa [Audio.silent, lengthEnable, bitAt, hp, hc.1] using hc.2

/-- The duty pattern that bits 7:6 of NRx1 select (R954). -/
theorem dutyStep_eq (nrx1 : Byte) (step : Nat) :
    dutyStep (nrx1.extractLsb' 6 2) step =
      (([[0, 0, 0, 0, 0, 0, 0, 1], [1, 0, 0, 0, 0, 0, 0, 1], [1, 0, 0, 0, 0, 1, 1, 1], [0, 1, 1, 1, 1, 1, 1, 0]] :
        List (List Nat)).getD (nrx1.toNat / 64) []).getD step 0 := by
  have h (d : BitVec 2) : dutyStep d step =
      (([[0, 0, 0, 0, 0, 0, 0, 1], [1, 0, 0, 0, 0, 0, 0, 1], [1, 0, 0, 0, 0, 1, 1, 1], [0, 1, 1, 1, 1, 1, 1, 0]] :
        List (List Nat)).getD d.toNat []).getD step 0 := by
    obtain ⟨i⟩ := d
    fin_cases i <;> rfl
  have hd : (nrx1.extractLsb' 6 2).toNat = nrx1.toNat / 64 := by
    have hlt := nrx1.isLt
    rw [BitVec.extractLsb'_toNat, Nat.shiftRight_eq_div_pow]
    omega
  rw [h, hd]

/-- An 11-bit frequency as a number (R951). -/
theorem toNat_freqOf (nrx4 nrx3 : Byte) : (freqOf nrx4 nrx3).toNat = nrx4.toNat % 8 * 256 + nrx3.toNat := by
  have h : (freqOf nrx4 nrx3).toNat = (nrx4.extractLsb' 0 3).toNat <<< 8 ||| nrx3.toNat := BitVec.toNat_append _ _
  rw [h, ← Nat.shiftLeft_add_eq_or_of_lt nrx3.isLt, Nat.shiftLeft_eq, BitVec.extractLsb'_toNat, Nat.shiftRight_zero]

/-- The output level that NR32 bits 6:5 select (R959). -/
theorem waveShift_eq (nr32 : Byte) : waveShift nr32 = ([4, 0, 1, 2] : List Nat).getD (nr32.toNat / 32 % 4) 0 := by
  revert nr32
  decide +kernel

/-! The mixer (R963). -/

theorem bitNat_mul (b : Bool) (n : Nat) : bitNat b * n = if b then n else 0 := by
  cases b <;> simp [bitNat]

/-- The default mix: silence is no exception to it. -/
theorem audioMix_default {cfg : Config} (h : cfg.audioMix = []) (m : MixInput) :
    audioMix cfg m = (sideSum m 4 * (m.nr50.toNat / 16 % 8 + 1), sideSum m 0 * (m.nr50.toNat % 8 + 1)) := by
  simp only [audioMix, h, lookupD]
  split
  · next hz => rw [hz.1, hz.2, Nat.zero_mul, Nat.zero_mul]
  · rfl

/-- Settles O60: the pump by `pump_induction`, each edge by its own equation. -/
theorem audioSteps : Obligations.AudioSteps := by
  refine ⟨fun u cfg t => ?pump, fun u cfg t => ?edges, fun u t => ?noise, fun narrow l k hk => getLsbD_lfsrClock narrow l hk,
    fun u t hp => ?amplitudes, fun cfg m h => ?mix⟩
  case pump =>
    obtain ⟨hs, hl, he, hw⟩ := (Audio.lt_nextEdge_iff _ t).1 (u.lt_nextEdge_pump cfg t)
    have hlater := u.edgesLater_pump cfg t
    exact ⟨hs, hl, he, hw, hlater.length, hlater.sweep, hlater.envelope, hlater.sample⟩
  case edges =>
    intro down move p shift f u1 mix
    refine ⟨fun hs hl he hw => ?none, fun ht hl he hw => Audio.pump_of_edge cfg (Audio.edge_of_sample cfg hl he hw) ht,
      fun ht hs he hw => ?length, fun ht hs hl hw => ?envelope, fun ht hs hl he => ?sweep⟩
    case none => rw [u.pump_eq, if_neg (Nat.not_le.2 ((u.lt_nextEdge_iff t).2 ⟨hs, hl, he, hw⟩))]
    case length =>
      rw [Audio.pump_of_edge cfg (Audio.edge_of_length cfg hs he hw) ht]
      simp only [Audio.lengthEdge, Channel.lengthEdge_eq]
      rfl
    case envelope =>
      rw [Audio.pump_of_edge cfg (Audio.edge_of_envelope cfg hs hl hw) ht]
      simp only [Audio.envelopeEdge, Envelope.edge_eq]
      rfl
    case sweep =>
      rw [Audio.pump_of_edge cfg (Audio.edge_of_sweep cfg hs hl he) ht, u.sweepEdge_eq, sweptFreq_eq]
  case noise =>
    intro n
    rw [Audio.advanceNoise, noisePeriod_eq, lfsrClocks_eq_iterate]
    rfl
  case amplitudes =>
    intro duty step freq sounds
    refine ⟨fun h => ?pulse1, fun h => ?pulse2, fun h hdac => ?wave, fun h => ?noise⟩
    case pulse1 => rw [Audio.amplitude1, if_neg (Audio.not_silent hp h), pulseAmplitude, dutyStep_eq]
    case pulse2 => rw [Audio.amplitude2, if_neg (Audio.not_silent hp h), pulseAmplitude, dutyStep_eq, toNat_freqOf]
    case wave =>
      intro k b
      have hn : ¬(u.silent u.ch3 u.nr34 || !bitAt u.nr30 7) = true := by
        simp [Audio.not_silent hp h, bitAt, hdac]
      rw [Audio.amplitude3, if_neg hn, waveSample, toNat_freqOf, waveShift_eq]
    case noise =>
      rw [Audio.amplitude4, if_neg (Audio.not_silent hp h), bitAt]
      cases u.noise.lfsr.getLsbD 0 <;> simp [bitNat]
  case mix =>
    intro side
    have hside (k : Nat) : sideSum m k = side k := by
      simp only [sideSum, bitNat_mul, bitAt]
      rfl
    rw [audioMix_default h, hside, hside]

end Sys2Proof.Machine
end

section
/-! The EI delay (70_reset_and_hazards R1020; 46_system R754, R755). -/

namespace Sys2Proof.Machine

/-- Charging a cost leaves IME and EI_PENDING (R811). -/
theorem State.charge_interruptEnable (s : State) (c : Nat) (r : StepResult) :
    (s.charge c r).ime = s.ime ∧ (s.charge c r).eiPending = s.eiPending := by
  let n := s.cycles + if s.doubleSpeed then c / 2 else c
  obtain ⟨_, _, _, _, _, _, _, _, _, hp⟩ := State.pump_frame { s with cycles := n, stepResult := r } n
  rw [State.charge, hp]
  exact ⟨rfl, rfl⟩

/-- A step that completes ran its instruction without an error, and left IME and EI_PENDING as settling the EI that was pending
before does (R810 phase 4). -/
theorem State.Runs.step_settles {s t : State} {i : Instr} {bs : List Byte} (h : s.Runs) (hd : decode bs = .ok (i, []))
    (hb : s.BytesAt s.regs.pc bs) (hs : step s = .next t) (hf : t.fault = none) :
    ∃ u, exec i (s.setPc (s.regs.pc + BitVec.ofNat 16 bs.length)) = .next u ∧ u.fault = none ∧
      t.ime = (u.settleEi s.eiPending).ime ∧ t.eiPending = (u.settleEi s.eiPending).eiPending := by
  obtain ⟨u, hu⟩ := exec_next i (s.setPc (s.regs.pc + BitVec.ofNat 16 bs.length))
  rw [h.step_eq hd hb] at hs
  have hn : u.fault = none := by
    by_contra hn
    rw [State.execute_raises hu hn] at hs
    cases hs
    exact hn hf
  rw [State.execute_completes hu hn] at hs
  cases hs
  exact ⟨u, hu, hn, State.charge_interruptEnable _ _ _⟩

/-- An instruction other than DI that completes leaves a pending EI pending, or, as RETI, has enabled interrupts itself. -/
theorem exec_pendingEi {s u : State} {i : Instr} (hdelay : s.cfg.eiDelay = true) (hp : s.eiPending = true) (hi : i ≠ .di)
    (h : exec i s = .next u) (hf : u.fault = none) : u.eiPending = true ∨ (u.ime = true ∧ u.eiPending = false) := by
  by_cases hei : i = .ei
  · subst hei
    cases h
    rw [hdelay]
    exact .inl rfl
  by_cases hreti : i = .reti
  · subst hreti
    have h : returnEnable s = .next u := h
    obtain ⟨w, e, -, hw⟩ | ⟨w, -, hw⟩ := returnEnable_eq s <;> rw [hw] at h <;> cases h
    · exact absurd hf (Option.some_ne_none e)
    · exact .inr ⟨rfl, rfl⟩
  · exact .inl (((controlBitWriters i s u h).1 hi hei hreti).2.trans hp)

/-- Settles O44: EI and DI run to a known state; any other instruction leaves the pending EI to be settled. -/
theorem eiDelay : Obligations.EiDelay := by
  intro s t i bs hdelay hime hr hd hb hs hf
  obtain ⟨u, hu, hn, htime, htpend⟩ := hr.step_settles hd hb hs hf
  rw [htime, htpend]
  refine ⟨?ei, ?other, ?di⟩
  case ei =>
    rintro rfl hp
    cases hu
    simp [State.settleEi, hp, hdelay, hime]
  case other =>
    intro hi hp
    obtain h | ⟨h1, h2⟩ := exec_pendingEi (s := s.setPc (s.regs.pc + BitVec.ofNat 16 bs.length)) hdelay hp hi hu hn
    · simp [State.settleEi, hp, h]
    · simp [State.settleEi, hp, h1, h2]
  case di =>
    rintro rfl
    cases hu
    simp [State.settleEi]

end Sys2Proof.Machine
end

section
/-! Construction with the default parameters (70_reset_and_hazards R1000 to R1004), and the invariant it meets. -/

namespace Sys2Proof.Machine

/-- Construction with the default parameters is the reset state but for the mode, its registers, and the cartridge. -/
theorem construct_standard_of_header {rom : List Byte} {d : Header} (hd : decodeHeader rom = some d) (request : Bool) :
    construct rom .standard request = some { State.reset with
      regs := if request && d.colorCapable then .bootColor else .bootMono
      colorMode := request && d.colorCapable
      cart := .insert rom d } :=
  Option.map_eq_some_iff.2 ⟨d, hd, rfl⟩

theorem construct_standard_eq {rom : List Byte} {request : Bool} {s : State} (h : construct rom .standard request = some s) :
    s = { State.reset with
      regs := if s.colorMode then .bootColor else .bootMono
      colorMode := s.colorMode
      cart := s.cart } := by
  obtain ⟨d, hd, -, -⟩ := construct_standard_header h
  cases (construct_standard_of_header hd request).symm.trans h
  rfl

/-- IE is read at FFFF where nothing is watched (10_state R120). -/
theorem State.memRead_ie {s : State} (hw : s.watchpoints = []) : s.memRead 0xFFFF = .ok s.ie := by
  have ht : s.target 0xFFFF = .ie := rfl
  simp only [State.memRead, State.watchHit_of_nil _ hw, ht]

/-- A register that reads a fixed value, in a state where nothing is watched. -/
theorem State.memRead_const {s : State} {a : Word} {r : IoReg} {v : Byte} (hw : s.watchpoints = []) (hr : regionOf a = .io)
    (h : ∀ color, ioRegAt color (a.toNat - 0xFF00) = some r) (hv : ∀ d, s.ioRead d r = v) : s.memRead a = .ok v := by
  rw [State.memRead_reg hw (s.target_reg hr h), hv]

/-- Settles O1: the registers are the mode's, the control state is the reset state's, and F's low nibble is masked. -/
theorem bootProcessor : Obligations.BootProcessor := by
  refine ⟨⟨fun rom request s h => ⟨fun hc => ?mono, fun hc => ?color⟩, fun rom setup request s _ => low_nibble_zero s.regs.f⟩,
    fun rom request s h => ?control⟩
  case mono =>
    have hf : Regs.bootMono.f &&& 0xF0 = 0xB0 := by decide
    rw [construct_standard_eq h, hc]
    exact ⟨rfl, hf, rfl, rfl, rfl, rfl, rfl, rfl, rfl, rfl⟩
  case color =>
    have hf : Regs.bootColor.f &&& 0xF0 = 0x80 := by decide
    rw [construct_standard_eq h, hc]
    exact ⟨rfl, hf, rfl, rfl, rfl, rfl, rfl, rfl, rfl, rfl⟩
  case control =>
    rw [construct_standard_eq h]
    refine ⟨rfl, rfl, rfl, rfl, rfl, rfl, rfl, rfl, rfl, rfl, rfl, rfl, State.memRead_ie rfl, fun k hk => ?_⟩
    have hie : (0 : Byte).getLsbD k.bit = true := hk.1
    simp at hie

/-- Settles O2: the devices are the reset state's, each register read at its address. -/
theorem bootDevices : Obligations.BootDevices := by
  intro rom request s h
  rw [construct_standard_eq h]
  generalize s.colorMode = color
  generalize s.cart = cart
  have reads (a : Word) (r : IoReg) {v : Byte} (ha : regionOf a = .io ∧ ∀ color, ioRegAt color (a.toNat - 0xFF00) = some r) :=
    State.memRead_const (s := { State.reset with
      regs := if color then .bootColor else .bootMono, colorMode := color, cart := cart }) (v := v) rfl ha.1 ha.2
  refine ⟨?inputTimerInterrupts, ?audio, ?video, ?color⟩
  case inputTimerInterrupts =>
    have hlow6 : Input.reset.low6 = 0x3F := by decide
    have hdiv : State.reset.divider = 0 := by decide
    exact ⟨rfl, hlow6, rfl, reads 0xFF04 .div (by decide) fun _ => hdiv, reads 0xFF05 .tima (by decide) fun _ => rfl,
      reads 0xFF06 .tma (by decide) fun _ => rfl, rfl, rfl, State.memRead_ie rfl⟩
  case audio =>
    have hperiod : 95 = samplePeriod .standard := by decide
    refine ⟨rfl, rfl, rfl, rfl, rfl, rfl, rfl, rfl, rfl, rfl, rfl, rfl, rfl, rfl, rfl, rfl, rfl, rfl, rfl, rfl, rfl, rfl, rfl,
      rfl, rfl, rfl, rfl, rfl, rfl, rfl, hperiod, rfl, rfl, rfl⟩
  case video =>
    have hmode : State.reset.modeAt 0 = 2 := by decide
    have hly : BitVec.ofNat 8 (State.reset.lineAt 0) = 0 := by decide
    exact ⟨reads 0xFF40 .lcdc (by decide) fun _ => rfl, rfl, hmode, rfl, rfl,
      reads 0xFF42 .scy (by decide) fun _ => rfl, reads 0xFF43 .scx (by decide) fun _ => rfl,
      reads 0xFF44 .ly (by decide) fun _ => hly, reads 0xFF45 .lyc (by decide) fun _ => rfl,
      reads 0xFF46 .dma (by decide) fun _ => rfl, reads 0xFF47 .bgp (by decide) fun _ => rfl,
      reads 0xFF48 .obp0 (by decide) fun _ => rfl, reads 0xFF49 .obp1 (by decide) fun _ => rfl,
      reads 0xFF4A .wy (by decide) fun _ => rfl, reads 0xFF4B .wx (by decide) fun _ => rfl⟩
  case color => and_intros <;> rfl

/-- Loading zeros into a memory of zeros lists nothing. -/
theorem Memory.load_zeros (a n : Nat) : (Memory.blank .zero).load a (List.replicate n 0) = .blank .zero := by
  induction n generalizing a with
  | zero => rfl
  | succ n ih => exact ih (a + 1)

/-- The header of the model's own image names no bank controller, two banks and no RAM (log 3). -/
theorem decodeHeader_zeros : decodeHeader (List.replicate 0x8000 0) = some ⟨.direct, 2, 0, false⟩ := by
  have h (n : Nat) : (List.replicate 0x8000 (0 : Byte)).getD n 0 = 0 := by
    rw [List.getD_eq_getElem?_getD, List.getElem?_replicate]
    split <;> rfl
  rw [decodeHeader_eq_some, List.length_replicate, h, h, h, h]
  decide

/-- BANK1 is 1 in every bank controller a header names (20_memory R241). -/
theorem controllerOf_bank1 {kind : Byte} {r : Mbc1} (h : controllerOf kind = some (.mbc1 r)) : r.bank1 = 1 := by
  unfold controllerOf at h
  split_ifs at h <;> cases h
  rfl

/-- The invariant holds after every construction with the default parameters. -/
theorem construct_standard_inv {rom : List Byte} {request : Bool} {s : State} (h : construct rom .standard request = some s) :
    s.Inv := by
  obtain ⟨d, hd, -, hcart⟩ := construct_standard_header h
  have hrom : s.cart.rom.wf = true := by
    rw [hcart]
    exact Memory.wf_load rom _ 0 (Memory.wf_blank .zero)
  have hram : s.cart.ram.wf = true := by
    rw [hcart]
    rfl
  have hbank : ∀ r, s.cart.controller = .mbc1 r → r.bank1 ≠ 0 := by
    intro r hr
    rw [hcart] at hr
    have hk : controllerOf (rom.getD 0x147 0) = some (.mbc1 r) := (decodeHeader_eq_some.1 hd).2.1.trans (congrArg some hr)
    rw [controllerOf_bank1 hk]
    decide
  have hf : ∀ color : Bool, (if color then Regs.bootColor else .bootMono).f &&& 0x0F = 0 := by decide
  rw [construct_standard_eq h]
  exact {
    memories := ⟨rfl, rfl, rfl, rfl, rfl, rfl, hrom, hram, rfl⟩
    lowNibble := hf s.colorMode
    monochrome := fun _ => ⟨rfl, rfl⟩
    bank1 := hbank
    pumped := rfl
    halts := nofun
    started := Nat.le_refl 0
    noDelay := nofun }

/-- An image of zeros in the machine: no byte listed (log 3). -/
theorem Cart.insert_zeros (n : Nat) (d : Header) :
    Cart.insert (List.replicate n 0) d = ⟨.blank .zero, n, d.romBanks, .blank (.draw 7), d.ramSize, d.controller⟩ := by
  rw [Cart.insert, Memory.load_zeros, List.length_replicate]

/-- The reset state is the construction from 32 KiB of zeros, without the color request (log 3). -/
theorem construct_zeros : construct (List.replicate 0x8000 0) .standard false = some State.reset := by
  rw [construct_standard_of_header decodeHeader_zeros, Cart.insert_zeros]
  rfl

/-- Settles O4: the reset state is a construction, and every construction meets the invariant. -/
theorem invAtStart : Obligations.InvAtStart :=
  ⟨construct_zeros, construct_standard_inv construct_zeros, fun _ _ _ => construct_standard_inv⟩

end Sys2Proof.Machine
end
